-- ==== Sys2Proof/Word.lean ====
section
/-! DEFINITION. The bytes the block handles and the 12-byte frame (spec/00_scope.md R8, spec/20_memory.md R41). -/

namespace Sys2Proof

/-- A byte: unsigned, 8 bits, bit 7 the most significant (R8). -/
abbrev Byte := BitVec 8

/-- A sequence of exactly twelve bytes, index 0 first on the wire (R41, R42): the shape of the telegram
buffer `TB[0..11]` and of the DEC operand `dec_frame[0..11]`. -/
structure Frame where
  b0 : Byte
  b1 : Byte
  b2 : Byte
  b3 : Byte
  b4 : Byte
  b5 : Byte
  b6 : Byte
  b7 : Byte
  b8 : Byte
  b9 : Byte
  b10 : Byte
  b11 : Byte
  deriving DecidableEq, Repr

end Sys2Proof
end

