-- ==== Sys2Proof/Config.lean ====
section
/-! DEFINITION. The parameter record (spec/00_scope.md R6), the table of protocol constants (R7), and the one
uninterpreted constant that stands for what reset leaves unspecified (spec/10_state.md R26). -/

namespace Sys2Proof

/-- `DEC_LEN_W` in bits: the width of the `dec_len` port (R6). -/
abbrev Config.decLenW : Nat := 8

/-- The value of the parameter `DEC_LEN_W`: R6 gives one, and no other can be written down. -/
inductive DecLenWidth where
  | w8
  deriving DecidableEq, Repr

/-- The width in bits. -/
def DecLenWidth.bits : DecLenWidth → Nat
  | .w8 => Config.decLenW

/-- `TICK_PERIOD` in seconds (R6): positive by its type, since no rule reads it and none could check it (log entry 6). -/
abbrev TickPeriod := { q : Rat // 0 < q }

/-- The parameter record of R6. It is an argument of the model: a rule reads it, none fixes the open ones.
The ranges 1..65535 are checked where a rule reads the two numbers (log entry 4). -/
structure Params where
  /-- `ATTEMPT_TICKS`: ticks in one read attempt. -/
  attemptTicks : Nat
  /-- `MAX_ATTEMPTS`: read attempts before the overall deadline. -/
  maxAttempts : Nat
  /-- `TICK_PERIOD` in seconds; no rule reads it (R6, R236). -/
  tickPeriod : TickPeriod
  /-- `DEC_LEN_W`: 8 (R6); the ports of Sys2Proof/Syntax.lean have this width. -/
  decLenW : DecLenWidth
  deriving DecidableEq, Repr

namespace Config

/-- "request to transmit" (R7, R68). -/
def inq : Byte := 0xFA
/-- "permission granted" (R7, R68). -/
def ack : Byte := 0x05
/-- Telegram header, element 0 (R7). -/
def hdr0 : Byte := 0x55
/-- Telegram header, element 1 (R7). -/
def hdr1 : Byte := 0x16
/-- Telegram header, element 2 (R7). -/
def hdr2 : Byte := 0x00
/-- Fixed payload, element 4 (R7). -/
def pay0 : Byte := 0x01
/-- Fixed payload, element 5 (R7). -/
def pay1 : Byte := 0x00
/-- Fixed payload, element 6 (R7). -/
def pay2 : Byte := 0x00
/-- Fixed payload, element 7 (R7). -/
def pay3 : Byte := 0x00
/-- Fixed payload, element 8 (R7). -/
def pay4 : Byte := 0x00
/-- Fixed payload, element 9 (R7). -/
def pay5 : Byte := 0x00
/-- Telegram terminator (R7). -/
def term : Byte := 0xAA
/-- Telegram length in bytes (R7). -/
def frameLen : Nat := 12
/-- `group_base` of group A (R7). -/
def gbA : Byte := 0x00
/-- `group_base` of group B (R7). -/
def gbB : Byte := 0x08
/-- `group_base` of group C (R7). -/
def gbC : Byte := 0x10
/-- `action_flag` of ON (R7). -/
def afOn : Byte := 0x40
/-- `action_flag` of OFF (R7). -/
def afOff : Byte := 0x80
/-- The lowest channel (R7). -/
def chMin : Nat := 1
/-- The highest channel (R7). -/
def chMax : Nat := 8
/-- ACK bytes the Serial Reader Loop writes per inbound INQ (R7, R166): the environment's, not the block's. -/
def rspAcks : Nat := 2

/-- What a data register holds after a step with `rst` = 1: "unspecified" (R26). It has no value in Lean, so no
proof can rest on the contents of a register nothing has written (log entry 3). -/
opaque unspecifiedByte : Nat → BitVec 8

end Config

end Sys2Proof
end

