-- ==== Sys2Proof/Syntax.lean ====
section
/-! DEFINITION. The block's encoded things (spec/30_encoding.md, opening): the host operations with their operands,
the two control bytes, the telegrams and the 48 command words, one constructor of `Instr` for each row of
spec/opcode_table.json; and the form in which one of them stands at the block's ports. -/

namespace Sys2Proof

/-- The Command operand of ENC and SEND as the three operand ports carry it, invalid values included (R62). -/
structure Command where
  /-- `cmd_grp[1:0]`: 0 A, 1 B, 2 C; 3 invalid. -/
  grp : BitVec 2
  /-- `cmd_chan[3:0]`: the channel number 1..8; 0 and 9..15 invalid. -/
  chan : BitVec 4
  /-- `cmd_act[1:0]`: 0b01 ON, 0b10 OFF; 0b00 and 0b11 invalid. -/
  act : BitVec 2
  deriving DecidableEq, Repr

/-- The four kinds of encoded thing (R74). -/
inductive Format where
  | hop | ctrl | tgm | devb
  deriving DecidableEq, Repr

/-- One constructor per row of spec/opcode_table.json. -/
inductive Instr where
  /-- The absence of a host operation (R139). -/
  | nop
  /-- Encode a Command into the telegram buffer (R96). -/
  | enc (c : Command)
  /-- Decode and validate the sequence of length `len` whose first twelve bytes are `frame` (R100). -/
  | dec (len : BitVec Config.decLenW) (frame : Frame)
  /-- Encode a Command and run one handshake (R122). -/
  | send (c : Command)
  /-- Destroy a terminal handshake instance (R138). -/
  | clr
  /-- The control byte 0xFA on the line to the block (R68, R69). -/
  | inq
  /-- The control byte 0x05 on the line to the block (R68, R130). -/
  | ack
  /-- A 12-byte sequence of the pattern `TGM.ON` (R67), its fields group, channel minus 1 and checksum. -/
  | tgmOn (g : BitVec 2) (c : BitVec 3) (k : Byte)
  /-- A 12-byte sequence of the pattern `TGM.OFF` (R67). -/
  | tgmOff (g : BitVec 2) (c : BitVec 3) (k : Byte)
  /-- The command words of group A, action ON, channels 1 to 8 (R91, R74). -/
  | a1on
  | a2on
  | a3on
  | a4on
  | a5on
  | a6on
  | a7on
  | a8on
  /-- The command words of group A, action OFF, channels 1 to 8 (R91, R74). -/
  | a1off
  | a2off
  | a3off
  | a4off
  | a5off
  | a6off
  | a7off
  | a8off
  /-- The command words of group B, action ON, channels 1 to 8 (R91, R74). -/
  | b1on
  | b2on
  | b3on
  | b4on
  | b5on
  | b6on
  | b7on
  | b8on
  /-- The command words of group B, action OFF, channels 1 to 8 (R91, R74). -/
  | b1off
  | b2off
  | b3off
  | b4off
  | b5off
  | b6off
  | b7off
  | b8off
  /-- The command words of group C, action ON, channels 1 to 8 (R91, R74). -/
  | c1on
  | c2on
  | c3on
  | c4on
  | c5on
  | c6on
  | c7on
  | c8on
  /-- The command words of group C, action OFF, channels 1 to 8 (R91, R74). -/
  | c1off
  | c2off
  | c3off
  | c4off
  | c5off
  | c6off
  | c7off
  | c8off
  deriving DecidableEq, Repr

/-- The host's side of the input ports in one step (R22): the operation and every operand port. -/
structure HostPorts where
  op : BitVec 3
  cmd : Command
  decLen : BitVec Config.decLenW
  decFrame : Frame
  deriving DecidableEq, Repr

/-- What the outside presents to the block in one step, in one of the four formats (R74): a host operation on the
`op` and operand ports, a byte on the line, a 12-byte sequence, or a command word (log entry 1). -/
inductive Presented where
  | hop (p : HostPorts)
  | ctrl (b : Byte)
  | tgm (f : Frame)
  | devb (d : Byte)
  deriving DecidableEq, Repr

/-- The format of a presented word. -/
def Presented.format : Presented → Format
  | .hop _ => .hop
  | .ctrl _ => .ctrl
  | .tgm _ => .tgm
  | .devb _ => .devb

end Sys2Proof
end

