-- ==== Sys2Proof/WellFormed.lean ====
section
/-! DEFINITION. Which instructions are well formed: the telegrams are, exactly when they are one of the 48 of
spec/30_encoding.md R67. Every value of the operand ports of ENC, DEC and SEND is well formed: the ports carry
invalid Commands and frames so that the block can report them (R62, R63). -/

namespace Sys2Proof

/-- `gg` is a group (R67: 0b11 is invalid). -/
def groupFieldOk (g : BitVec 2) : Bool := g != 3

/-- The DeviceByte of the telegram fields `fn`, `gg`, `ccc` (R64, R67). -/
def fieldsDevb (fn : BitVec 2) (g : BitVec 2) (c : BitVec 3) : Byte := fn ++ 0#1 ++ g ++ c

/-- `kkkkkkkk` is the checksum that the other bytes determine: `(0x94 - byte 3) mod 256` (R67, R92). -/
def checksumFieldOk (fn : BitVec 2) (g : BitVec 2) (c : BitVec 3) (k : Byte) : Bool :=
  k == 0x94 - fieldsDevb fn g c

/-- The checks a well-formed instruction passes. -/
def wellFormed : Instr → Bool
  | .nop => true
  | .enc _ => true
  | .dec _ _ => true
  | .send _ => true
  | .clr => true
  | .inq => true
  | .ack => true
  | .tgmOn g c k => groupFieldOk g && checksumFieldOk 0b01 g c k
  | .tgmOff g c k => groupFieldOk g && checksumFieldOk 0b10 g c k
  | .a1on => true
  | .a2on => true
  | .a3on => true
  | .a4on => true
  | .a5on => true
  | .a6on => true
  | .a7on => true
  | .a8on => true
  | .a1off => true
  | .a2off => true
  | .a3off => true
  | .a4off => true
  | .a5off => true
  | .a6off => true
  | .a7off => true
  | .a8off => true
  | .b1on => true
  | .b2on => true
  | .b3on => true
  | .b4on => true
  | .b5on => true
  | .b6on => true
  | .b7on => true
  | .b8on => true
  | .b1off => true
  | .b2off => true
  | .b3off => true
  | .b4off => true
  | .b5off => true
  | .b6off => true
  | .b7off => true
  | .b8off => true
  | .c1on => true
  | .c2on => true
  | .c3on => true
  | .c4on => true
  | .c5on => true
  | .c6on => true
  | .c7on => true
  | .c8on => true
  | .c1off => true
  | .c2off => true
  | .c3off => true
  | .c4off => true
  | .c5off => true
  | .c6off => true
  | .c7off => true
  | .c8off => true

end Sys2Proof
end

