-- ==== Sys2Proof/Decode.lean ====
section
/-! DEFINITION. The decoder of what stands at the ports, total and rejecting by name (spec/30_encoding.md R60, R61,
R66 to R68), the encoder written from the same tables, and the reading of a word as spec/opcode_table.json numbers it. -/

namespace Sys2Proof

/-- Why a presented word is no instruction of the table. -/
inductive Reject where
  /-- `op` is 0b101, 0b110 or 0b111 (R61). -/
  | reservedOp (op : BitVec 3)
  /-- A byte on the line that is neither INQ nor ACK (R68). -/
  | otherByte (b : Byte)
  /-- Twelve bytes that match neither telegram pattern (R67). -/
  | notTelegram (f : Frame)
  /-- One of the 208 byte values that are no DeviceByte (R66). -/
  | notDeviceByte (d : Byte)
  deriving DecidableEq, Repr

/-- Format `HOP` (R60, R61). -/
def decodeHop (p : HostPorts) : Except Reject Instr :=
  match p.op.toNat with
  | 0 => .ok .nop
  | 1 => .ok (.enc p.cmd)
  | 2 => .ok (.dec p.decLen p.decFrame)
  | 3 => .ok (.send p.cmd)
  | 4 => .ok .clr
  | _ => .error (.reservedOp p.op)

/-- Format `CTRL` (R68). -/
def decodeCtrl (b : Byte) : Except Reject Instr :=
  if b = 0xFA then .ok .inq else if b = 0x05 then .ok .ack else .error (.otherByte b)

/-- The fixed bits of both telegram patterns outside byte 3 (R67). -/
def telegramFixed (f : Frame) : Bool :=
  f.b0 == 0x55 && f.b1 == 0x16 && f.b2 == 0x00 && f.b4 == 0x01 && f.b5 == 0x00 && f.b6 == 0x00 &&
    f.b7 == 0x00 && f.b8 == 0x00 && f.b9 == 0x00 && f.b11 == 0xAA

/-- Field `gg`, byte 3 bits 4:3 (R67). -/
def groupField (d : Byte) : BitVec 2 := d.extractLsb' 3 2

/-- Field `ccc`, byte 3 bits 2:0 (R67). -/
def channelField (d : Byte) : BitVec 3 := d.extractLsb' 0 3

/-- Format `TGM` (R67): the two patterns differ in bits 7:5 of byte 3. -/
def decodeTgm (f : Frame) : Except Reject Instr :=
  if telegramFixed f && f.b3.extractLsb' 5 3 == 0b010#3 then
    .ok (.tgmOn (groupField f.b3) (channelField f.b3) f.b10)
  else if telegramFixed f && f.b3.extractLsb' 5 3 == 0b100#3 then
    .ok (.tgmOff (groupField f.b3) (channelField f.b3) f.b10)
  else .error (.notTelegram f)

/-- Format `DEVB`: the 48 rows (R66, R74); any other byte is the encoding of no Command. -/
def decodeDevb (d : Byte) : Except Reject Instr :=
  match d.toNat with
  | 0x40 => .ok .a1on
  | 0x41 => .ok .a2on
  | 0x42 => .ok .a3on
  | 0x43 => .ok .a4on
  | 0x44 => .ok .a5on
  | 0x45 => .ok .a6on
  | 0x46 => .ok .a7on
  | 0x47 => .ok .a8on
  | 0x48 => .ok .b1on
  | 0x49 => .ok .b2on
  | 0x4A => .ok .b3on
  | 0x4B => .ok .b4on
  | 0x4C => .ok .b5on
  | 0x4D => .ok .b6on
  | 0x4E => .ok .b7on
  | 0x4F => .ok .b8on
  | 0x50 => .ok .c1on
  | 0x51 => .ok .c2on
  | 0x52 => .ok .c3on
  | 0x53 => .ok .c4on
  | 0x54 => .ok .c5on
  | 0x55 => .ok .c6on
  | 0x56 => .ok .c7on
  | 0x57 => .ok .c8on
  | 0x80 => .ok .a1off
  | 0x81 => .ok .a2off
  | 0x82 => .ok .a3off
  | 0x83 => .ok .a4off
  | 0x84 => .ok .a5off
  | 0x85 => .ok .a6off
  | 0x86 => .ok .a7off
  | 0x87 => .ok .a8off
  | 0x88 => .ok .b1off
  | 0x89 => .ok .b2off
  | 0x8A => .ok .b3off
  | 0x8B => .ok .b4off
  | 0x8C => .ok .b5off
  | 0x8D => .ok .b6off
  | 0x8E => .ok .b7off
  | 0x8F => .ok .b8off
  | 0x90 => .ok .c1off
  | 0x91 => .ok .c2off
  | 0x92 => .ok .c3off
  | 0x93 => .ok .c4off
  | 0x94 => .ok .c5off
  | 0x95 => .ok .c6off
  | 0x96 => .ok .c7off
  | 0x97 => .ok .c8off
  | _ => .error (.notDeviceByte d)

/-- The decoder: total on everything that can stand at the ports, rejecting by name. -/
def decode : Presented → Except Reject Instr
  | .hop p => decodeHop p
  | .ctrl b => decodeCtrl b
  | .tgm f => decodeTgm f
  | .devb d => decodeDevb d

/-- Operand ports that no operation reads are driven to 0 by the encoder (they are ignored, R53). -/
def idleCommand : Command := ⟨0, 0, 0⟩

/-- Twelve zero bytes: the frame ports when no operation reads them. -/
def zeroFrame : Frame := ⟨0, 0, 0, 0, 0, 0, 0, 0, 0, 0, 0, 0⟩

/-- A telegram from its fields (R67): `fn`, `gg`, `ccc` in byte 3, `kkkkkkkk` in byte 10, the rest constant. -/
def telegramFrame (fn : BitVec 2) (g : BitVec 2) (c : BitVec 3) (k : Byte) : Frame :=
  ⟨0x55, 0x16, 0x00, fn ++ 0#1 ++ g ++ c, 0x01, 0x00, 0x00, 0x00, 0x00, 0x00, k, 0xAA⟩

/-- The encoder: each row's word, with its operands on their ports. -/
def encode : Instr → Presented
  | .nop => .hop ⟨0b000, idleCommand, 0, zeroFrame⟩
  | .enc c => .hop ⟨0b001, c, 0, zeroFrame⟩
  | .dec len f => .hop ⟨0b010, idleCommand, len, f⟩
  | .send c => .hop ⟨0b011, c, 0, zeroFrame⟩
  | .clr => .hop ⟨0b100, idleCommand, 0, zeroFrame⟩
  | .inq => .ctrl 0xFA
  | .ack => .ctrl 0x05
  | .tgmOn g c k => .tgm (telegramFrame 0b01 g c k)
  | .tgmOff g c k => .tgm (telegramFrame 0b10 g c k)
  | .a1on => .devb 0x40
  | .a2on => .devb 0x41
  | .a3on => .devb 0x42
  | .a4on => .devb 0x43
  | .a5on => .devb 0x44
  | .a6on => .devb 0x45
  | .a7on => .devb 0x46
  | .a8on => .devb 0x47
  | .a1off => .devb 0x80
  | .a2off => .devb 0x81
  | .a3off => .devb 0x82
  | .a4off => .devb 0x83
  | .a5off => .devb 0x84
  | .a6off => .devb 0x85
  | .a7off => .devb 0x86
  | .a8off => .devb 0x87
  | .b1on => .devb 0x48
  | .b2on => .devb 0x49
  | .b3on => .devb 0x4A
  | .b4on => .devb 0x4B
  | .b5on => .devb 0x4C
  | .b6on => .devb 0x4D
  | .b7on => .devb 0x4E
  | .b8on => .devb 0x4F
  | .b1off => .devb 0x88
  | .b2off => .devb 0x89
  | .b3off => .devb 0x8A
  | .b4off => .devb 0x8B
  | .b5off => .devb 0x8C
  | .b6off => .devb 0x8D
  | .b7off => .devb 0x8E
  | .b8off => .devb 0x8F
  | .c1on => .devb 0x50
  | .c2on => .devb 0x51
  | .c3on => .devb 0x52
  | .c4on => .devb 0x53
  | .c5on => .devb 0x54
  | .c6on => .devb 0x55
  | .c7on => .devb 0x56
  | .c8on => .devb 0x57
  | .c1off => .devb 0x90
  | .c2off => .devb 0x91
  | .c3off => .devb 0x92
  | .c4off => .devb 0x93
  | .c5off => .devb 0x94
  | .c6off => .devb 0x95
  | .c7off => .devb 0x96
  | .c8off => .devb 0x97

/-- Byte `i` of a word whose first byte is its bits 7..0. -/
def wordByte (w i : Nat) : Byte := BitVec.ofNat 8 (w >>> (8 * i))

/-- The twelve bytes of a 96-bit word, the first byte in bits 7..0. -/
def wordFrame (w : Nat) : Frame :=
  ⟨wordByte w 0, wordByte w 1, wordByte w 2, wordByte w 3, wordByte w 4, wordByte w 5,
   wordByte w 6, wordByte w 7, wordByte w 8, wordByte w 9, wordByte w 10, wordByte w 11⟩

/-- A frame read from its other end. -/
def Frame.reversed (f : Frame) : Frame :=
  ⟨f.b11, f.b10, f.b9, f.b8, f.b7, f.b6, f.b5, f.b4, f.b3, f.b2, f.b1, f.b0⟩

/-- Where a table word of `nbits` bits is presented. A word of at most three bits is an `op` code. Of the byte-wide
words 0 to 4 are the host operations (the reserved codes are no rows), 0x05 and 0xFA the control bytes, the rest command
words. A wider word is a telegram; spec/opcode_table.json prints a telegram byte 0 leftmost, so a word whose low byte
is the terminator and whose top byte is the header is read from the other end (log entry 2). -/
def Presented.ofTableWord (nbits w : Nat) : Presented :=
  if nbits ≤ 3 then .hop ⟨BitVec.ofNat 3 w, idleCommand, 0, zeroFrame⟩
  else if nbits ≤ 8 then
    if w < 5 then .hop ⟨BitVec.ofNat 3 w, idleCommand, 0, zeroFrame⟩
    else if w = 0x05 ∨ w = 0xFA then .ctrl (BitVec.ofNat 8 w)
    else .devb (BitVec.ofNat 8 w)
  else if (wordFrame w).b0 = 0xAA ∧ (wordFrame w).b11 = 0x55 then .tgm (wordFrame w).reversed
  else .tgm (wordFrame w)

/-- The instruction the decoder reads from a word of spec/opcode_table.json, `none` where it refuses. -/
def decodeTableWord (nbits w : Nat) : Option Instr :=
  match decode (Presented.ofTableWord nbits w) with
  | .ok i => some i
  | .error _ => none

end Sys2Proof
end

