-- ==== Sys2Proof/Machine/Checksum.lean ====
section
/-! DEFINITION. The checksum accumulator and its functions (spec/41_checksum.md R110 to R113). -/

namespace Sys2Proof.Machine

/-- `ck_clear` (R110). -/
def ckClear : Byte := 0

/-- `ck_add` (R110): the carry out is discarded (R116). -/
def ckAdd (acc b : Byte) : Byte := acc + b

/-- `ck_final` (R110): `(256 - acc) mod 256`. -/
def ckFinal (acc : Byte) : Byte := 0 - acc

/-- `sum8` (R111): the left fold of `ck_add` from `ck_clear`. -/
def sum8 (q : List Byte) : Byte := q.foldl ckAdd ckClear

/-- `cksum` (R112). -/
def cksum (p : List Byte) : Byte := ckFinal (sum8 p)

/-- The twelve elements, index 0 first. -/
def Frame.elements (f : Frame) : List Byte :=
  [f.b0, f.b1, f.b2, f.b3, f.b4, f.b5, f.b6, f.b7, f.b8, f.b9, f.b10, f.b11]

/-- `f[0..10)`: the bytes that precede the checksum cell. -/
def Frame.beforeChecksum (f : Frame) : List Byte := (Frame.elements f).take 10

/-- `f[0..11)`: all but the terminator. -/
def Frame.beforeTerminator (f : Frame) : List Byte := (Frame.elements f).take 11

/-- `ck_ok` (R113). -/
def ckOk (f : Frame) : Bool := sum8 (Frame.beforeTerminator f) == 0

end Sys2Proof.Machine
end

