-- ==== Sys2Proof/Machine/State.lean ====
section
/-! DEFINITION. The registers of the block (spec/10_state.md R10), its ports (R22, R23), the two byte streams
(spec/20_memory.md R40), the agents around it as far as spec/43_environment.md gives them state, the reasons a step can
stop, and the state after reset (R26). -/

namespace Sys2Proof.Machine

/-- The HandshakeState held by `HS`; a 3-bit code in the hardware, five values held (R12, D17, V2). -/
inductive HState where
  | idle | await | xmit | complete | failed
  deriving DecidableEq, Repr

/-- The reason held by `REASON` (R16). -/
inductive Reason where
  | none | timeout | unexpected | writeErr
  deriving DecidableEq, Repr

/-- The code held by `DEC_ERR` (R18); code 7 is never written. -/
inductive DecErr where
  | ok | length | header | term | checksum | payload | devbyte
  deriving DecidableEq, Repr

/-- The registers of R10, all of them and nothing else. -/
structure Regs where
  /-- `HS` (R12). -/
  hs : HState
  /-- `REASON` (R16). -/
  reason : Reason
  /-- `TXIDX`: the next telegram byte, the count of bytes transferred (R12). -/
  txidx : BitVec 4
  /-- `ATT_TMR` (R21). -/
  attTmr : BitVec 16
  /-- `ATT_CNT` (R21). -/
  attCnt : BitVec 16
  /-- `TB[0..11]`, the telegram buffer (R11); `DEVB` is its cell 3 and `CK` its cell 10 (R13). -/
  tb : Frame
  /-- `TB_VALID` (R19). -/
  tbValid : Bool
  /-- `CKACC`, the checksum accumulator (R14). -/
  ckacc : Byte
  /-- `ENC_ERR`: bit 0 BAD_GROUP, bit 1 BAD_CHANNEL, bit 2 BAD_ACTION (R17). -/
  encErr : BitVec 3
  /-- `DEC_ERR` (R18). -/
  decErr : DecErr
  /-- `DCMD_VALID` (R15). -/
  dcmdValid : Bool
  /-- `DGRP` (R15). -/
  dgrp : BitVec 2
  /-- `DCHAN` (R15). -/
  dchan : BitVec 4
  /-- `DACT` (R15). -/
  dact : BitVec 2
  deriving DecidableEq, Repr

/-- The output ports of one step (R23). -/
structure Outputs where
  opAck : Bool
  opRej : Bool
  txValid : Bool
  txData : Byte
  txFlush : Bool
  rxPop : Bool
  wrLock : Bool
  rdOwn : Bool
  busy : Bool
  done : Bool
  failed : Bool
  /-- The read-back outputs: the registers as they stood at the start of the step. -/
  readBack : Regs
  deriving DecidableEq, Repr

/-- One unit of local input for the Keyboard Loop (R167). -/
inductive KeyUnit where
  | exit | menu | newline | char (b : Byte)
  deriving DecidableEq, Repr

/-- `newline_mode` of SessionState (R172). -/
inductive NewlineMode where
  | lf | cr | crlf
  deriving DecidableEq, Repr

/-- An act of an agent around the block, between two steps of the block (R160, R164, R166, R167, R169, R173). -/
inductive EnvAct where
  /-- The remote device puts a byte on the line; it joins the port's receive queue (R163, R164). -/
  | arrive (b : Byte)
  /-- The Serial Reader Loop takes one turn (R166). -/
  | readerTurn
  /-- The Keyboard Loop reads one input unit (R167). -/
  | key (u : KeyUnit)
  /-- The Session Orchestrator starts the loops (R169). -/
  | start
  /-- The Session Orchestrator stops them (R169). -/
  | stop
  /-- A read or write of a loop fails on the transport (R173). -/
  | ioError
  deriving DecidableEq, Repr

/-- The input ports of one step (R22) and what the agents around the block do after it. `rx_avail` and `rx_data` are
not here: they show the receive queue `State.rx` (R163). -/
structure Pins where
  rst : Bool
  /-- What stands at `op`, the operand ports or the line in this step. -/
  word : Presented
  txReady : Bool
  txErr : Bool
  flushDone : Bool
  tick : Bool
  /-- Acts of the environment between this step and the next, in order. -/
  acts : List EnvAct
  deriving DecidableEq, Repr

/-- SessionState (R172): the environment's record; the block reads none of it (R20). -/
structure Session where
  alive : Bool
  echo : Bool
  newlineMode : NewlineMode
  deriving DecidableEq, Repr

/-- The machine: the block, its ports, the two byte streams and the environment's own state. -/
structure State where
  /-- The static parameter record (R6, R20); no step writes it. -/
  cfg : Params
  /-- The block's registers (R10). -/
  regs : Regs
  /-- The levels on the input ports in the coming step. -/
  pins : Pins
  /-- The levels in the steps after it, first first; when it is used up the ports idle. MODEL's own. -/
  script : List Pins
  /-- The outputs of the step just taken. MODEL's own record of a Mealy output. -/
  out : Outputs
  /-- The RX stream: the Transport Port's receive queue, oldest byte first (R40, R163). -/
  rx : List Byte
  /-- The TX stream: every byte transferred to the port, oldest first (R40, R47). -/
  tx : List Byte
  /-- SessionState (R172). -/
  session : Session
  /-- Bytes the loops handed to the local display path (R166, R167); one list for both loops (log entry 26). -/
  display : List Byte
  /-- ACK bytes the Serial Reader Loop still has to write (R166, R170). -/
  ackOwed : Nat
  /-- `CKACC` has been written since reset (R27). MODEL's own: it tells a host read of nothing from one of a value. -/
  ckWritten : Bool
  /-- A DEC has been taken since reset (R28 item 7). MODEL's own. -/
  decTaken : Bool
  /-- How many unspecified bytes have been drawn (log entry 3). MODEL's own. -/
  freeCount : Nat
  deriving DecidableEq, Repr

/-- The machine stops. -/
inductive Fault where
  /-- Raised by a counted tick in AWAIT when `ATTEMPT_TICKS` or `MAX_ATTEMPTS` is outside 1..65535: the rules are not
  defined for such a configuration (spec/93_implementation_defined.md V8). Safe: the model stops where a block could go on. -/
  | configOutOfRange
  deriving DecidableEq, Repr

/-- No meaning for what was presented. -/
inductive Refusal where
  /-- Raised by no arm of `exec`: every instruction of the table has its meaning. Safe. -/
  | notModelled (mnemonic : String)
  /-- Raised by `step` for a byte presented as a command word that is the DeviceByte of no Command (R66): the spec gives
  it no operands and no effect. Safe: nothing can be proved of what follows. -/
  | notACommandWord (d : Byte)
  deriving DecidableEq, Repr

/-- The outcome of a step of this machine. -/
abbrev Result := Host.Outcome State Fault Refusal

/-- The reset values of R26. `TB`, `CKACC`, `DGRP`, `DCHAN`, `DACT` are unspecified there; the model names zero
(log entry 5, unsafe: nothing may rest on it). -/
def Regs.reset : Regs where
  hs := .idle
  reason := .none
  txidx := 0
  attTmr := 0
  attCnt := 0
  tb := ⟨0, 0, 0, 0, 0, 0, 0, 0, 0, 0, 0, 0⟩
  tbValid := false
  ckacc := 0
  encErr := 0
  decErr := .ok
  dcmdValid := false
  dgrp := 0
  dchan := 0
  dact := 0

/-- Input ports on which nothing is presented: `op` = NOP and every level 0. -/
def Pins.idle : Pins where
  rst := false
  word := .hop ⟨0, ⟨0, 0, 0⟩, 0, ⟨0, 0, 0, 0, 0, 0, 0, 0, 0, 0, 0, 0⟩⟩
  txReady := false
  txErr := false
  flushDone := false
  tick := false
  acts := []

/-- The outputs shown before the first step: all 0. -/
def Outputs.quiet : Outputs where
  opAck := false
  opRej := false
  txValid := false
  txData := 0
  txFlush := false
  rxPop := false
  wrLock := false
  rdOwn := false
  busy := false
  done := false
  failed := false
  readBack := Regs.reset

/-- The machine right after reset, with nothing presented (R26). The parameters are open (R6); the values here are the
test configuration of spec/95_test_vectors.md (log entry 6). -/
def State.reset : State where
  cfg := ⟨2, 2, ⟨1, by decide⟩, .w8⟩
  regs := Regs.reset
  pins := Pins.idle
  script := []
  out := Outputs.quiet
  rx := []
  tx := []
  session := ⟨false, false, .lf⟩
  display := []
  ackOwed := 0
  ckWritten := false
  decTaken := false
  freeCount := 0

end Sys2Proof.Machine
end

