-- ==== Sys2Proof/Machine/Operands.lean ====
section
/-! DEFINITION. Operand forms: the packed Command, the assembly of the DeviceByte, the frame of a Command, the
byte sequence of DEC, and access to one cell of the telegram buffer (spec/30_encoding.md R62 to R65,
spec/40_codec.md R91, R92, R97, R99, spec/00_scope.md R8). -/

namespace Sys2Proof.Machine

/-- `CMD[7:0] = {cmd_act[1:0], cmd_grp[1:0], cmd_chan[3:0]}` (R62). -/
def packCommand (c : Command) : Byte := c.act ++ c.grp ++ c.chan

/-- The three operands of a packed Command (R62). -/
def unpackCommand (v : Byte) : Command := ⟨v.extractLsb' 4 2, v.extractLsb' 0 4, v.extractLsb' 6 2⟩

/-- `group_base` (R65): A, B, C; the value for the invalid code 3 is never used. -/
def groupBase (grp : BitVec 2) : Byte :=
  if grp = 0 then Config.gbA else if grp = 1 then Config.gbB else if grp = 2 then Config.gbC else 0x18

/-- `action_flag` (R65): ON, OFF; the values for 0b00 and 0b11 are never used. -/
def actionFlag (act : BitVec 2) : Byte :=
  if act = 0b01 then Config.afOn else if act = 0b10 then Config.afOff
  else if act = 0b00 then 0x00 else 0xC0

/-- `devbyte` (R91): `(act << 6) | (grp << 3) | (chan - 1)`. -/
def devbyte (c : Command) : Byte :=
  (c.act.setWidth 8 <<< 6) ||| (c.grp.setWidth 8 <<< 3) ||| (c.chan.setWidth 8 - 1)

/-- `p` of R92: the ten bytes that precede the checksum cell. -/
def framePart (c : Command) : List Byte :=
  [Config.hdr0, Config.hdr1, Config.hdr2, devbyte c, Config.pay0, Config.pay1, Config.pay2, Config.pay3,
   Config.pay4, Config.pay5]

/-- `frame` (R92). -/
def frameOf (c : Command) : Frame where
  b0 := Config.hdr0
  b1 := Config.hdr1
  b2 := Config.hdr2
  b3 := devbyte c
  b4 := Config.pay0
  b5 := Config.pay1
  b6 := Config.pay2
  b7 := Config.pay3
  b8 := Config.pay4
  b9 := Config.pay5
  b10 := cksum (framePart c)
  b11 := Config.term

/-- `valid_devbyte` (R97). -/
def validDevbyte (d : Byte) : Bool :=
  (d.extractLsb' 6 2 == 0b01#2 || d.extractLsb' 6 2 == 0b10#2) && d.extractLsb' 5 1 == 0#1 &&
    d.extractLsb' 3 2 != 0b11#2

/-- `cmd_of_devbyte` (R99). -/
def cmdOfDevbyte (d : Byte) : Command :=
  ⟨d.extractLsb' 3 2, (d.extractLsb' 0 3).setWidth 4 + 1, d.extractLsb' 6 2⟩

/-- The frame ports for a sequence of bytes: its first twelve, and 0 where it is shorter (R100: such ports are
never looked at). -/
def frameOfBytes (s : List Byte) : Frame :=
  ⟨s.getD 0 0, s.getD 1 0, s.getD 2 0, s.getD 3 0, s.getD 4 0, s.getD 5 0,
   s.getD 6 0, s.getD 7 0, s.getD 8 0, s.getD 9 0, s.getD 10 0, s.getD 11 0⟩

/-- `MemRead(i, 1)` on the telegram buffer (R8): cell `i` for `i` in 0..11; no other address exists. -/
def tbRead (f : Frame) (i : Nat) : Option Byte := (Frame.elements f)[i]?

/-- The cell XMIT offers in its write phase (R134), where `TXIDX` is at most 11 (R44). -/
def tbCell (f : Frame) (i : BitVec 4) : Byte := (tbRead f i.toNat).getD 0

end Sys2Proof.Machine
end

