-- ==== Sys2Proof/Machine/Flags.lean ====
section
/-! DEFINITION. Every status computation: the EncodeError mask, the DecodeError code, the numeric codes of the
enumerated registers and the packed status word (spec/40_codec.md R93, R98, spec/10_state.md R12, R16, R18, R29). -/

namespace Sys2Proof.Machine

/-- `enc_check` (R93): bit 0 BAD_GROUP, bit 1 BAD_CHANNEL, bit 2 BAD_ACTION. -/
def encCheck (c : Command) : BitVec 3 :=
  (if c.grp = 3 then 1 else 0) ||| (if c.chan = 0 ∨ 9 ≤ c.chan then 2 else 0) |||
    (if c.act = 0b00 ∨ c.act = 0b11 then 4 else 0)

/-- The first failing check of `decode` on a frame of length 12 (R98 checks 2 to 6), `ok` when none fails. -/
def frameCheck (f : Frame) : DecErr :=
  if f.b0 ≠ Config.hdr0 ∨ f.b1 ≠ Config.hdr1 ∨ f.b2 ≠ Config.hdr2 then .header
  else if f.b11 ≠ Config.term then .term
  else if ckOk f = false then .checksum
  else if f.b4 ≠ Config.pay0 ∨ f.b5 ≠ Config.pay1 ∨ f.b6 ≠ Config.pay2 ∨ f.b7 ≠ Config.pay3 ∨
      f.b8 ≠ Config.pay4 ∨ f.b9 ≠ Config.pay5 then .payload
  else if validDevbyte f.b3 = false then .devbyte
  else .ok

/-- The code that `decode` gives for a sequence of length `len` (R98: the length check comes first). -/
def decCheck (len : Nat) (f : Frame) : DecErr :=
  if len ≠ Config.frameLen then .length else frameCheck f

/-- The numeric code of `HS` (R12). -/
def HState.code : HState → BitVec 3
  | .idle => 0
  | .await => 1
  | .xmit => 2
  | .complete => 3
  | .failed => 4

/-- The numeric code of `REASON` (R16). -/
def Reason.code : Reason → BitVec 2
  | .none => 0
  | .timeout => 1
  | .unexpected => 2
  | .writeErr => 3

/-- The numeric code of `DEC_ERR` (R18). -/
def DecErr.code : DecErr → BitVec 3
  | .ok => 0
  | .length => 1
  | .header => 2
  | .term => 3
  | .checksum => 4
  | .payload => 5
  | .devbyte => 6

/-- Busy: `HS` is AWAIT or XMIT (R9, R23). -/
def HState.isBusy : HState → Bool
  | .idle => false
  | .await => true
  | .xmit => true
  | .complete => false
  | .failed => false

/-- `STATUS[15:0]` (R29). -/
def statusWord (r : Regs) : BitVec 16 :=
  BitVec.ofBool r.dcmdValid ++ BitVec.ofBool r.tbValid ++ DecErr.code r.decErr ++ r.encErr ++ Reason.code r.reason ++
    HState.code r.hs ++ BitVec.ofBool (r.hs == .complete) ++ BitVec.ofBool (r.hs == .failed) ++
    BitVec.ofBool (HState.isBusy r.hs)

end Sys2Proof.Machine
end

