-- ==== Sys2Proof/Machine/Codec.lean ====
section
/-! DEFINITION. The Telegram Codec as a pair of pure functions (spec/40_codec.md R90, R95, R98). -/

namespace Sys2Proof.Machine

/-- The result of `encode` (R95). -/
inductive EncResult where
  | frame (f : Frame)
  | encodeError (mask : BitVec 3)
  deriving DecidableEq, Repr

/-- The result of `decode` (R98). -/
inductive DecResult where
  | command (c : Command)
  | decodeError (code : DecErr)
  deriving DecidableEq, Repr

/-- `encode` (R95): total. -/
def codecEncode (c : Command) : EncResult :=
  if encCheck c = 0 then .frame (frameOf c) else .encodeError (encCheck c)

/-- `decode` on a sequence of length `len` whose first elements are `f` (R98). -/
def codecDecode (len : Nat) (f : Frame) : DecResult :=
  if decCheck len f = .ok then .command (cmdOfDevbyte f.b3) else .decodeError (decCheck len f)

/-- `decode` on any byte sequence (R98). -/
def codecDecodeSeq (s : List Byte) : DecResult := codecDecode s.length (frameOfBytes s)

end Sys2Proof.Machine
end

