-- ==== Sys2Proof/Machine/Ops.lean ====
section
/-! DEFINITION. The shared operations on registers and streams: the outputs a state shows, the transfer of one byte
to the port, building a telegram, failing an instance (the nearest thing to taking an exception) and destroying one
(the nearest thing to returning from it), reset, and the host's reads (spec/42_handshake.md R122, R128, R138,
spec/60_exceptions.md R196, R199, R200, spec/10_state.md R23, R26, R27). -/

namespace Sys2Proof.Machine

/-- The range of R6 for the two parameters that a rule reads (V8). -/
def paramsValid (p : Params) : Bool :=
  decide (1 ≤ p.attemptTicks ∧ p.attemptTicks ≤ 65535 ∧ 1 ≤ p.maxAttempts ∧ p.maxAttempts ≤ 65535)

/-- The deadline in seconds (R236): read by no rule. -/
def deadlineSeconds (p : Params) : Rat := p.attemptTicks * p.maxAttempts * p.tickPeriod.val

/-- The outputs that depend on the state only; those that depend on inputs are 0 until an operation sets them (R23, R8). -/
def stateOutputs (r : Regs) : Outputs where
  opAck := false
  opRej := false
  txValid := false
  txData := 0
  txFlush := false
  rxPop := false
  wrLock := HState.isBusy r.hs
  rdOwn := r.hs == .await
  busy := HState.isBusy r.hs
  done := r.hs == .complete
  failed := r.hs == .failed
  readBack := r

/-- How the port answers an offered byte (R128). -/
inductive TxAnswer where
  | error | transferred | stall
  deriving DecidableEq, Repr

/-- The priority of R128: an error beats a ready. -/
def txAnswer (p : Pins) : TxAnswer :=
  if p.txErr then .error else if p.txReady then .transferred else .stall

/-- The priority of R136: an error beats the end of the flush. -/
def flushAnswer (p : Pins) : TxAnswer :=
  if p.txErr then .error else if p.flushDone then .transferred else .stall

/-- Append a byte to the TX stream (R47). -/
def appendTx (b : Byte) (s : State) : State := { s with tx := s.tx ++ [b] }

/-- A byte joins the port's receive queue (R163). -/
def receiveByte (b : Byte) (s : State) : State := { s with rx := s.rx ++ [b] }

/-- Entry into FAILED (R196): `HS` and `REASON` are written, everything else keeps its value. -/
def enterFailed (why : Reason) (r : Regs) : Regs := { r with hs := .failed, reason := why }

/-- Destroying an instance (R138, R200): `HS`, `REASON`, `TXIDX` and nothing else. -/
def clearInstance (r : Regs) : Regs := { r with hs := .idle, reason := .none, txidx := 0 }

/-- `raise EncodeError(e)` (R199): the mask is recorded. -/
def recordEncodeError (e : BitVec 3) (r : Regs) : Regs := { r with encErr := e }

/-- `build()` of R122: the telegram, its valid bit, a clear error mask and the ten-byte sum (R14). -/
def buildTelegram (c : Command) (r : Regs) : Regs :=
  { r with tb := frameOf c, tbValid := true, encErr := 0, ckacc := sum8 (Frame.beforeChecksum (frameOf c)) }

/-- A new handshake instance in AWAIT, its timers at 0 (R122). -/
def enterAwait (r : Regs) : Regs :=
  { r with hs := .await, reason := .none, txidx := 0, attTmr := 0, attCnt := 0 }

/-- The registers DEC writes (R100): the accumulator when the length is 12, the code, and the Command when there is one. -/
def decodeInto (len : Nat) (f : Frame) (r : Regs) : Regs :=
  let acc := if len = Config.frameLen then sum8 (Frame.beforeTerminator f) else r.ckacc
  match codecDecode len f with
  | .command c =>
    { r with ckacc := acc, decErr := .ok, dcmdValid := true, dgrp := c.grp, dchan := c.chan, dact := c.act }
  | .decodeError code => { r with ckacc := acc, decErr := code, dcmdValid := false }

/-- The step in which only outputs are driven: no register is written. -/
def quietStep (s : State) : Result := .next { s with out := stateOutputs s.regs }

/-- Twelve unspecified bytes. -/
def unspecifiedFrame (n : Nat) : Frame where
  b0 := Config.unspecifiedByte n
  b1 := Config.unspecifiedByte (n + 1)
  b2 := Config.unspecifiedByte (n + 2)
  b3 := Config.unspecifiedByte (n + 3)
  b4 := Config.unspecifiedByte (n + 4)
  b5 := Config.unspecifiedByte (n + 5)
  b6 := Config.unspecifiedByte (n + 6)
  b7 := Config.unspecifiedByte (n + 7)
  b8 := Config.unspecifiedByte (n + 8)
  b9 := Config.unspecifiedByte (n + 9)
  b10 := Config.unspecifiedByte (n + 10)
  b11 := Config.unspecifiedByte (n + 11)

/-- The registers after a step with `rst` = 1 (R26): the control registers at 0, the data registers unspecified. -/
def resetRegs (n : Nat) : Regs :=
  { Regs.reset with
    tb := unspecifiedFrame n
    ckacc := Config.unspecifiedByte (n + 12)
    dgrp := (Config.unspecifiedByte (n + 13)).setWidth 2
    dchan := (Config.unspecifiedByte (n + 14)).setWidth 4
    dact := (Config.unspecifiedByte (n + 15)).setWidth 2 }

/-- A step with `rst` = 1 (R26, R194 item 1, R221): every other input is ignored, the outputs that depend on inputs are
0, the others still show the state before, and neither stream is touched. -/
def resetStep (s : State) : Result :=
  .next { s with
    regs := resetRegs s.freeCount
    out := stateOutputs s.regs
    ckWritten := false
    decTaken := false
    freeCount := s.freeCount + 16 }

/-- The host's read of `tb`: no value while `TB_VALID` = 0 (R27, R232, V3). -/
def hostReadTb (s : State) : Option Frame := if s.regs.tbValid then some s.regs.tb else none

/-- The host's read of `ckacc`: no value before an encode or a DEC of length 12 has written it (R27). -/
def hostReadCkacc (s : State) : Option Byte := if s.ckWritten then some s.regs.ckacc else none

/-- The host's read of `dgrp`, `dchan`, `dact`: no value while `DCMD_VALID` = 0 (R15, R27, V3, V4). -/
def hostReadDecoded (s : State) : Option Command :=
  if s.regs.dcmdValid then some ⟨s.regs.dgrp, s.regs.dchan, s.regs.dact⟩ else none

end Sys2Proof.Machine
end

