-- ==== Sys2Proof/Machine/Handshake.lean ====
section
/-! DEFINITION. The Handshake Controller's own step in AWAIT and XMIT, and the dispatch of a host operation on
`HS` (spec/42_handshake.md R120, R121, R128 to R137). -/

namespace Sys2Proof.Machine

/-- A counted tick in AWAIT (R131). The counters are compared as exact integers (R116). -/
def tickRegs (p : Params) (r : Regs) : Regs :=
  if r.attTmr.toNat + 1 < p.attemptTicks then { r with attTmr := r.attTmr + 1 }
  else if r.attCnt.toNat + 1 < p.maxAttempts then { r with attTmr := 0, attCnt := r.attCnt + 1 }
  else enterFailed .timeout { r with attTmr := 0 }

/-- The byte popped in AWAIT is judged (R130): only ACK leads to XMIT. -/
def judgeReply (b : Byte) (r : Regs) : Regs :=
  if b = Config.ack then { r with hs := .xmit } else enterFailed .unexpected r

/-- The step in AWAIT (R129 to R132): a received byte first, then a tick. `rej` says that a host operation was presented. -/
def awaitStep (rej : Bool) (s : State) : Result :=
  match s.rx with
  | b :: rest =>
    .next { s with
      regs := judgeReply b s.regs
      rx := rest
      out := { stateOutputs s.regs with opRej := rej, rxPop := true } }
  | [] =>
    if s.pins.tick then
      if paramsValid s.cfg then
        .next { s with regs := tickRegs s.cfg s.regs, out := { stateOutputs s.regs with opRej := rej } }
      else .fault .configOutOfRange
    else .next { s with out := { stateOutputs s.regs with opRej := rej } }

/-- The write phase of XMIT (R134, R135). -/
def writePhase (rej : Bool) (s : State) : Result :=
  let b := tbCell s.regs.tb s.regs.txidx
  let o := { stateOutputs s.regs with opRej := rej, txValid := true, txData := b }
  match txAnswer s.pins with
  | .error => .next { s with regs := enterFailed .writeErr s.regs, out := o }
  | .transferred => .next { appendTx b s with regs := { s.regs with txidx := s.regs.txidx + 1 }, out := o }
  | .stall => .next { s with out := o }

/-- The flush phase of XMIT (R136). -/
def flushPhase (rej : Bool) (s : State) : Result :=
  let o := { stateOutputs s.regs with opRej := rej, txFlush := true }
  match flushAnswer s.pins with
  | .error => .next { s with regs := enterFailed .writeErr s.regs, out := o }
  | .transferred => .next { s with regs := { s.regs with hs := .complete }, out := o }
  | .stall => .next { s with out := o }

/-- The step in XMIT (R133, R141): the phase is told by `TXIDX`. -/
def xmitStep (rej : Bool) (s : State) : Result :=
  if s.regs.txidx.toNat ≤ 11 then writePhase rej s else flushPhase rej s

/-- The dispatch of R120: while busy the state machine takes its step and an operation other than NOP is refused
(R121); otherwise the operation `act` is evaluated. -/
def hostStep (rej : Bool) (act : State → Result) (s : State) : Result :=
  match s.regs.hs with
  | .await => awaitStep rej s
  | .xmit => xmitStep rej s
  | .idle => act s
  | .complete => act s
  | .failed => act s

end Sys2Proof.Machine
end

