-- ==== Sys2Proof/Machine/HostOps.lean ====
section
/-! DEFINITION. The host operations NOP, ENC, DEC, SEND, CLR and the reserved codes (spec/42_handshake.md R122, R138,
R139, spec/40_codec.md R96, R100, spec/30_encoding.md R61). -/

namespace Sys2Proof.Machine

/-- A taken ENC (R96). A failing encode writes `ENC_ERR` and nothing else. -/
def takeEnc (c : Command) (s : State) : Result :=
  match codecEncode c with
  | .frame _ =>
    .next { s with
      regs := buildTelegram c s.regs
      ckWritten := true
      out := { stateOutputs s.regs with opAck := true } }
  | .encodeError e =>
    .next { s with
      regs := recordEncodeError e s.regs
      out := { stateOutputs s.regs with opAck := true } }

/-- A taken DEC (R100). -/
def takeDec (len : BitVec Config.decLenW) (f : Frame) (s : State) : Result :=
  .next { s with
    regs := decodeInto len.toNat f s.regs
    ckWritten := s.ckWritten || decide (len.toNat = Config.frameLen)
    decTaken := true
    out := { stateOutputs s.regs with opAck := true } }

/-- A SEND of a valid Command: INQ is offered to the port (R122, R123, R124). -/
def offerInq (c : Command) (s : State) : Result :=
  let o := { stateOutputs s.regs with txValid := true, txData := Config.inq }
  match txAnswer s.pins with
  | .error =>
    .next { s with
      regs := enterFailed .writeErr { buildTelegram c s.regs with txidx := 0 }
      ckWritten := true
      out := { o with opAck := true } }
  | .transferred =>
    .next { appendTx Config.inq s with
      regs := enterAwait (buildTelegram c s.regs)
      ckWritten := true
      out := { o with opAck := true } }
  | .stall => .next { s with out := o }

/-- An evaluated SEND (R122): an invalid Command is an EncodeError, and nothing is offered to the port. -/
def evalSend (c : Command) (s : State) : Result :=
  match codecEncode c with
  | .frame _ => offerInq c s
  | .encodeError e =>
    .next { s with
      regs := clearInstance (recordEncodeError e s.regs)
      out := { stateOutputs s.regs with opAck := true } }

/-- A taken CLR (R138). -/
def takeClr (s : State) : Result :=
  .next { s with regs := clearInstance s.regs, out := { stateOutputs s.regs with opAck := true } }

/-- A reserved code in a state that is not busy (R61): refused, nothing written. -/
def refuseOp (s : State) : Result := .next { s with out := { stateOutputs s.regs with opRej := true } }

/-- NOP (R139). -/
def execNop (s : State) : Result := hostStep false quietStep s

/-- ENC (R96, R121). -/
def execEnc (c : Command) (s : State) : Result := hostStep true (takeEnc c) s

/-- DEC (R100, R121). -/
def execDec (len : BitVec Config.decLenW) (f : Frame) (s : State) : Result := hostStep true (takeDec len f) s

/-- SEND (R122, R121). -/
def execSend (c : Command) (s : State) : Result := hostStep true (evalSend c) s

/-- CLR (R138, R121). -/
def execClr (s : State) : Result := hostStep true takeClr s

/-- The reserved codes 5, 6, 7 (R61): refused in every state. -/
def execReserved (s : State) : Result := hostStep true refuseOp s

end Sys2Proof.Machine
end

