-- ==== Sys2Proof/Machine/DeviceBytes.lean ====
section
/-! DEFINITION. The 48 command words (spec/30_encoding.md R66, R74, spec/40_codec.md R91): each presents its Command, as
its row of spec/opcode_table.json gives it, to the encoder (log entry 1). -/

namespace Sys2Proof.Machine

/-- A command word is presented: the encode of its Command (R91, R92, R96). -/
def encodeCommandWord (grp : BitVec 2) (chan : BitVec 4) (act : BitVec 2) (s : State) : Result :=
  hostStep true (takeEnc ⟨grp, chan, act⟩) s

/-- `a1on`, DeviceByte 0x40 (R91). -/
def execA1on (s : State) : Result := encodeCommandWord 0 1 0b01 s

/-- `a2on`, DeviceByte 0x41 (R91). -/
def execA2on (s : State) : Result := encodeCommandWord 0 2 0b01 s

/-- `a3on`, DeviceByte 0x42 (R91). -/
def execA3on (s : State) : Result := encodeCommandWord 0 3 0b01 s

/-- `a4on`, DeviceByte 0x43 (R91). -/
def execA4on (s : State) : Result := encodeCommandWord 0 4 0b01 s

/-- `a5on`, DeviceByte 0x44 (R91). -/
def execA5on (s : State) : Result := encodeCommandWord 0 5 0b01 s

/-- `a6on`, DeviceByte 0x45 (R91). -/
def execA6on (s : State) : Result := encodeCommandWord 0 6 0b01 s

/-- `a7on`, DeviceByte 0x46 (R91). -/
def execA7on (s : State) : Result := encodeCommandWord 0 7 0b01 s

/-- `a8on`, DeviceByte 0x47 (R91). -/
def execA8on (s : State) : Result := encodeCommandWord 0 8 0b01 s

/-- `a1off`, DeviceByte 0x80 (R91). -/
def execA1off (s : State) : Result := encodeCommandWord 0 1 0b10 s

/-- `a2off`, DeviceByte 0x81 (R91). -/
def execA2off (s : State) : Result := encodeCommandWord 0 2 0b10 s

/-- `a3off`, DeviceByte 0x82 (R91). -/
def execA3off (s : State) : Result := encodeCommandWord 0 3 0b10 s

/-- `a4off`, DeviceByte 0x83 (R91). -/
def execA4off (s : State) : Result := encodeCommandWord 0 4 0b10 s

/-- `a5off`, DeviceByte 0x84 (R91). -/
def execA5off (s : State) : Result := encodeCommandWord 0 5 0b10 s

/-- `a6off`, DeviceByte 0x85 (R91). -/
def execA6off (s : State) : Result := encodeCommandWord 0 6 0b10 s

/-- `a7off`, DeviceByte 0x86 (R91). -/
def execA7off (s : State) : Result := encodeCommandWord 0 7 0b10 s

/-- `a8off`, DeviceByte 0x87 (R91). -/
def execA8off (s : State) : Result := encodeCommandWord 0 8 0b10 s

/-- `b1on`, DeviceByte 0x48 (R91). -/
def execB1on (s : State) : Result := encodeCommandWord 1 1 0b01 s

/-- `b2on`, DeviceByte 0x49 (R91). -/
def execB2on (s : State) : Result := encodeCommandWord 1 2 0b01 s

/-- `b3on`, DeviceByte 0x4A (R91). -/
def execB3on (s : State) : Result := encodeCommandWord 1 3 0b01 s

/-- `b4on`, DeviceByte 0x4B (R91). -/
def execB4on (s : State) : Result := encodeCommandWord 1 4 0b01 s

/-- `b5on`, DeviceByte 0x4C (R91). -/
def execB5on (s : State) : Result := encodeCommandWord 1 5 0b01 s

/-- `b6on`, DeviceByte 0x4D (R91). -/
def execB6on (s : State) : Result := encodeCommandWord 1 6 0b01 s

/-- `b7on`, DeviceByte 0x4E (R91). -/
def execB7on (s : State) : Result := encodeCommandWord 1 7 0b01 s

/-- `b8on`, DeviceByte 0x4F (R91). -/
def execB8on (s : State) : Result := encodeCommandWord 1 8 0b01 s

/-- `b1off`, DeviceByte 0x88 (R91). -/
def execB1off (s : State) : Result := encodeCommandWord 1 1 0b10 s

/-- `b2off`, DeviceByte 0x89 (R91). -/
def execB2off (s : State) : Result := encodeCommandWord 1 2 0b10 s

/-- `b3off`, DeviceByte 0x8A (R91). -/
def execB3off (s : State) : Result := encodeCommandWord 1 3 0b10 s

/-- `b4off`, DeviceByte 0x8B (R91). -/
def execB4off (s : State) : Result := encodeCommandWord 1 4 0b10 s

/-- `b5off`, DeviceByte 0x8C (R91). -/
def execB5off (s : State) : Result := encodeCommandWord 1 5 0b10 s

/-- `b6off`, DeviceByte 0x8D (R91). -/
def execB6off (s : State) : Result := encodeCommandWord 1 6 0b10 s

/-- `b7off`, DeviceByte 0x8E (R91). -/
def execB7off (s : State) : Result := encodeCommandWord 1 7 0b10 s

/-- `b8off`, DeviceByte 0x8F (R91). -/
def execB8off (s : State) : Result := encodeCommandWord 1 8 0b10 s

/-- `c1on`, DeviceByte 0x50 (R91). -/
def execC1on (s : State) : Result := encodeCommandWord 2 1 0b01 s

/-- `c2on`, DeviceByte 0x51 (R91). -/
def execC2on (s : State) : Result := encodeCommandWord 2 2 0b01 s

/-- `c3on`, DeviceByte 0x52 (R91). -/
def execC3on (s : State) : Result := encodeCommandWord 2 3 0b01 s

/-- `c4on`, DeviceByte 0x53 (R91). -/
def execC4on (s : State) : Result := encodeCommandWord 2 4 0b01 s

/-- `c5on`, DeviceByte 0x54 (R91). -/
def execC5on (s : State) : Result := encodeCommandWord 2 5 0b01 s

/-- `c6on`, DeviceByte 0x55 (R91). -/
def execC6on (s : State) : Result := encodeCommandWord 2 6 0b01 s

/-- `c7on`, DeviceByte 0x56 (R91). -/
def execC7on (s : State) : Result := encodeCommandWord 2 7 0b01 s

/-- `c8on`, DeviceByte 0x57 (R91). -/
def execC8on (s : State) : Result := encodeCommandWord 2 8 0b01 s

/-- `c1off`, DeviceByte 0x90 (R91). -/
def execC1off (s : State) : Result := encodeCommandWord 2 1 0b10 s

/-- `c2off`, DeviceByte 0x91 (R91). -/
def execC2off (s : State) : Result := encodeCommandWord 2 2 0b10 s

/-- `c3off`, DeviceByte 0x92 (R91). -/
def execC3off (s : State) : Result := encodeCommandWord 2 3 0b10 s

/-- `c4off`, DeviceByte 0x93 (R91). -/
def execC4off (s : State) : Result := encodeCommandWord 2 4 0b10 s

/-- `c5off`, DeviceByte 0x94 (R91). -/
def execC5off (s : State) : Result := encodeCommandWord 2 5 0b10 s

/-- `c6off`, DeviceByte 0x95 (R91). -/
def execC6off (s : State) : Result := encodeCommandWord 2 6 0b10 s

/-- `c7off`, DeviceByte 0x96 (R91). -/
def execC7off (s : State) : Result := encodeCommandWord 2 7 0b10 s

/-- `c8off`, DeviceByte 0x97 (R91). -/
def execC8off (s : State) : Result := encodeCommandWord 2 8 0b10 s

end Sys2Proof.Machine
end

