-- ==== Sys2Proof/Machine/WireSymbols.lean ====
section
/-! DEFINITION. The wire symbols as they reach the block (log entry 1): a control byte on the line joins the port's
receive queue and the block takes its step with `op` = NOP (spec/30_encoding.md R68, R69, spec/42_handshake.md R130);
a telegram is presented to the decoder (R67, spec/40_codec.md R100). -/

namespace Sys2Proof.Machine

/-- A byte on the line in this step, no host operation presented. -/
def lineByte (b : Byte) (s : State) : Result := hostStep false quietStep (receiveByte b s)

/-- Twelve bytes presented to the decoder: a DEC of length 12. -/
def presentFrame (f : Frame) (s : State) : Result := hostStep true (takeDec 12 f) s

/-- INQ on the line to the block (R68, R69). -/
def execInq (s : State) : Result := lineByte Config.inq s

/-- ACK on the line to the block (R68, R130). -/
def execAck (s : State) : Result := lineByte Config.ack s

/-- A sequence of the pattern `TGM.ON` (R67). -/
def execTgmOn (g : BitVec 2) (c : BitVec 3) (k : Byte) (s : State) : Result :=
  presentFrame (telegramFrame 0b01 g c k) s

/-- A sequence of the pattern `TGM.OFF` (R67). -/
def execTgmOff (g : BitVec 2) (c : BitVec 3) (k : Byte) (s : State) : Result :=
  presentFrame (telegramFrame 0b10 g c k) s

end Sys2Proof.Machine
end

