-- ==== Sys2Proof/Machine/Dispatch.lean ====
section
/-! DEFINITION. One arm per constructor of `Instr`, each a call of its meaning. -/

namespace Sys2Proof.Machine

def exec (i : Instr) (s : State) : Host.Outcome State Fault Refusal :=
  match i with
  | .nop => Sys2Proof.Machine.execNop s
  | .enc c => Sys2Proof.Machine.execEnc c s
  | .dec len frame => Sys2Proof.Machine.execDec len frame s
  | .send c => Sys2Proof.Machine.execSend c s
  | .clr => Sys2Proof.Machine.execClr s
  | .inq => Sys2Proof.Machine.execInq s
  | .ack => Sys2Proof.Machine.execAck s
  | .tgmOn g c k => Sys2Proof.Machine.execTgmOn g c k s
  | .tgmOff g c k => Sys2Proof.Machine.execTgmOff g c k s
  | .a1on => Sys2Proof.Machine.execA1on s
  | .a2on => Sys2Proof.Machine.execA2on s
  | .a3on => Sys2Proof.Machine.execA3on s
  | .a4on => Sys2Proof.Machine.execA4on s
  | .a5on => Sys2Proof.Machine.execA5on s
  | .a6on => Sys2Proof.Machine.execA6on s
  | .a7on => Sys2Proof.Machine.execA7on s
  | .a8on => Sys2Proof.Machine.execA8on s
  | .a1off => Sys2Proof.Machine.execA1off s
  | .a2off => Sys2Proof.Machine.execA2off s
  | .a3off => Sys2Proof.Machine.execA3off s
  | .a4off => Sys2Proof.Machine.execA4off s
  | .a5off => Sys2Proof.Machine.execA5off s
  | .a6off => Sys2Proof.Machine.execA6off s
  | .a7off => Sys2Proof.Machine.execA7off s
  | .a8off => Sys2Proof.Machine.execA8off s
  | .b1on => Sys2Proof.Machine.execB1on s
  | .b2on => Sys2Proof.Machine.execB2on s
  | .b3on => Sys2Proof.Machine.execB3on s
  | .b4on => Sys2Proof.Machine.execB4on s
  | .b5on => Sys2Proof.Machine.execB5on s
  | .b6on => Sys2Proof.Machine.execB6on s
  | .b7on => Sys2Proof.Machine.execB7on s
  | .b8on => Sys2Proof.Machine.execB8on s
  | .b1off => Sys2Proof.Machine.execB1off s
  | .b2off => Sys2Proof.Machine.execB2off s
  | .b3off => Sys2Proof.Machine.execB3off s
  | .b4off => Sys2Proof.Machine.execB4off s
  | .b5off => Sys2Proof.Machine.execB5off s
  | .b6off => Sys2Proof.Machine.execB6off s
  | .b7off => Sys2Proof.Machine.execB7off s
  | .b8off => Sys2Proof.Machine.execB8off s
  | .c1on => Sys2Proof.Machine.execC1on s
  | .c2on => Sys2Proof.Machine.execC2on s
  | .c3on => Sys2Proof.Machine.execC3on s
  | .c4on => Sys2Proof.Machine.execC4on s
  | .c5on => Sys2Proof.Machine.execC5on s
  | .c6on => Sys2Proof.Machine.execC6on s
  | .c7on => Sys2Proof.Machine.execC7on s
  | .c8on => Sys2Proof.Machine.execC8on s
  | .c1off => Sys2Proof.Machine.execC1off s
  | .c2off => Sys2Proof.Machine.execC2off s
  | .c3off => Sys2Proof.Machine.execC3off s
  | .c4off => Sys2Proof.Machine.execC4off s
  | .c5off => Sys2Proof.Machine.execC5off s
  | .c6off => Sys2Proof.Machine.execC6off s
  | .c7off => Sys2Proof.Machine.execC7off s
  | .c8off => Sys2Proof.Machine.execC8off s

end Sys2Proof.Machine
end

