-- ==== Sys2Proof/Machine/Environment.lean ====
section
/-! DEFINITION. The agents around the block, as far as spec/43_environment.md gives them behaviour: the remote device
and the receive queue (R163, R164), the Serial Reader Loop (R166), the Keyboard Loop (R167), the orchestrator (R169),
and the exclusions that bind them (R170). They act between two steps of the block (R160). -/

namespace Sys2Proof.Machine

/-- `wr_lock` as the agents see it between two steps: the state the step left (R23, R51). -/
def writeLocked (s : State) : Bool := HState.isBusy s.regs.hs

/-- `rd_own` as the agents see it between two steps (R23, R51). -/
def readOwned (s : State) : Bool := s.regs.hs == .await

/-- The bytes a newline becomes (R172; the values are G2's). -/
def newlineBytes : NewlineMode → List Byte
  | .lf => [0x0A]
  | .cr => [0x0D]
  | .crlf => [0x0D, 0x0A]

/-- A loop's write to the transport; every caller asks for the write side first (R170). -/
def otherWrite (bytes : List Byte) (s : State) : State := { s with tx := s.tx ++ bytes }

/-- Local echo of forwarded input (R167, R172). That the echo and the reader loop's display path are one list, in the order
of the acts, is the model's choice (log entry 26): R167 says only "echoed locally", R166 "display/decode path". -/
def echoLocal (bytes : List Byte) (s : State) : State :=
  if s.session.echo then { s with display := s.display ++ bytes } else s

/-- The Serial Reader Loop judges a byte it has read (R166): INQ owes two ACK bytes, any other goes to the display
(log entry 26). -/
def readerJudge (b : Byte) (s : State) : State :=
  if b = Config.inq then { s with ackOwed := s.ackOwed + Config.rspAcks }
  else { s with display := s.display ++ [b] }

/-- The Serial Reader Loop writes the ACK bytes it owes, once `wr_lock` has fallen (R166, R170). -/
def readerReply (s : State) : State :=
  if writeLocked s then s
  else { otherWrite (List.replicate s.ackOwed Config.ack) s with ackOwed := 0 }

/-- The Serial Reader Loop pops one byte unless the block owns the inbound stream or an ACK reply is still owed. -/
def readerRead (s : State) : State :=
  if readOwned s || s.ackOwed != 0 then s
  else match s.rx with
    | [] => s
    | b :: rest => readerJudge b { s with rx := rest }

/-- One turn of the Serial Reader Loop (R166): a reply still owed goes out first, then a byte is read, and its reply
follows at once where the write side is free. -/
def readerTurn (s : State) : State := readerReply (readerRead (readerReply s))

/-- The Keyboard Loop forwards bytes to the transport and echoes the bytes it forwarded (R167); while `wr_lock` = 1 it must
keep off (R170) and the unit is dropped (log entry 13). That a newline is echoed too, as its translated bytes, is the
model's choice (log entry 23): R167 speaks of the echo of "all other input units", R172 of "forwarded input". -/
def forwardKeys (bytes : List Byte) (s : State) : State :=
  if writeLocked s then s else echoLocal bytes (otherWrite bytes s)

/-- One input unit of the Keyboard Loop (R167). The menu unit escapes into local commands the spec does not elaborate
(R5, N8): nothing reaches the transport. -/
def keyTurn (u : KeyUnit) (s : State) : State :=
  match u with
  | .exit => { s with session := { s.session with alive := false } }
  | .menu => s
  | .newline => forwardKeys (newlineBytes s.session.newlineMode) s
  | .char b => forwardKeys [b] s

/-- One act of an agent (R160). The loops act only while `alive` is true (R169, R172). ACK bytes still owed when `alive`
falls stay owed and go out after the next start: the model's choice (log entry 22), the spec is silent. Two more choices:
`alive` is looked at before a loop reads, so what ends a blocked read after `alive` has fallen is not handled (log
entry 25; R169, R171 do not place the check point); and a failing read or write of a loop (R173) ends the session and
leaves the streams and the bytes owed as they are (log entry 24). No act writes `echo` or `newline_mode`: `start` keeps
what the last session had, the model's choice (log entry 27), R172 does not say where a new session takes them from. -/
def envAct (a : EnvAct) (s : State) : State :=
  match a with
  | .arrive b => receiveByte b s
  | .readerTurn => if s.session.alive then readerTurn s else s
  | .key u => if s.session.alive then keyTurn u s else s
  | .start => { s with session := { s.session with alive := true } }
  | .stop => { s with session := { s.session with alive := false } }
  | .ioError => { s with session := { s.session with alive := false } }

/-- The acts between two steps, in order. -/
def envActs : List EnvAct → State → State
  | [], s => s
  | a :: rest, s => envActs rest (envAct a s)

/-- The next levels on the input ports: the script's next entry, or idle ports when it is used up (log entry 7). -/
def nextPins (s : State) : State :=
  match s.script with
  | [] => { s with pins := Pins.idle }
  | p :: rest => { s with pins := p, script := rest }

/-- What happens between a step of the block and the next one. -/
def endOfStep (s : State) : State := nextPins (envActs s.pins.acts s)

/-- `endOfStep` after a step that has a next state. -/
def finish : Result → Result
  | .next s => .next (endOfStep s)
  | .fault r => .fault r
  | .refused r => .refused r

end Sys2Proof.Machine
end

