-- ==== Sys2Proof/Machine/Fetch.lean ====
section
/-! DEFINITION. Where a step finds its instruction, and what it does with a presented word that is no instruction of
the table (spec/30_encoding.md R61, R66, R69, spec/40_codec.md R100). -/

namespace Sys2Proof.Machine

/-- The instruction at the ports in this step. -/
def fetch (s : State) : Except Reject Instr := decode s.pins.word

/-- A byte on the line reaches the port's receive queue also in a step with `rst` = 1: reset does not touch the Transport
Port (R221), which keeps what comes (R163, R193). That the byte comes in that very step is the model's to say: the rules
are silent on an arrival beside `rst` (log entry 14). -/
def lineArrival (s : State) : State :=
  match s.pins.word with
  | .hop _ => s
  | .ctrl b => receiveByte b s
  | .tgm _ => s
  | .devb _ => s

/-- A presented word that is no row of the table. A reserved `op` code is refused and the handshake goes on (R61); any
other byte on the line is received like INQ and ACK (R69); any other twelve bytes go to the decoder like a telegram
(R100); a byte that is no DeviceByte has no operands and no effect (R66). -/
def execRejected (r : Reject) (s : State) : Result :=
  match r with
  | .reservedOp _ => execReserved s
  | .otherByte b => lineByte b s
  | .notTelegram f => presentFrame f s
  | .notDeviceByte d => .refused (.notACommandWord d)

end Sys2Proof.Machine
end

