-- ==== Sys2Proof/Machine/Step.lean ====
section
/-! DEFINITION. One step: one rising edge of `clk` (spec/00_scope.md R8, spec/42_handshake.md R120, R141). -/

namespace Sys2Proof.Machine

/-- One clock edge of the block and the agents' turn after it. `rst` overrides everything in the block (R26, R194); a byte
on the line still joins the port's receive queue (R221, log entry 14). -/
def step (s : State) : Host.Outcome State Fault Refusal :=
  if s.pins.rst then finish (resetStep (lineArrival s))
  else match fetch s with
    | .ok i => finish (exec i s)
    | .error r => finish (execRejected r s)

/-- The state with a word of spec/opcode_table.json presented at the ports of the coming step, `rst` at 0. -/
def State.withFetchWord (s : State) (nbits w : Nat) : State :=
  { s with pins := { s.pins with rst := false, word := Presented.ofTableWord nbits w } }

end Sys2Proof.Machine
end

