-- ==== Sys2Proof/Machine/CommandString.lean ====
section
/-! DEFINITION. The text form of a Command and of a line of a program (spec/30_encoding.md R71 to R73): conveniences
of the tool chain, outside the block. A string is its list of characters. -/

namespace Sys2Proof.Machine

/-- `lower` of R72: `A`..`Z` to `a`..`z`, other characters alone. -/
def lowerChar (c : Char) : Char := if 'A' ≤ c ∧ c ≤ 'Z' then Char.ofNat (c.toNat + 32) else c

/-- `cmd_grp` of a string (R72). -/
def parseGroup (t : List Char) : BitVec 2 :=
  match t with
  | [] => 3
  | c :: _ =>
    if lowerChar c = 'a' then 0 else if lowerChar c = 'b' then 1 else if lowerChar c = 'c' then 2 else 3

/-- The value of a decimal digit, 0 for any other character. -/
def digitValue (c : Char) : BitVec 4 := if '0' ≤ c ∧ c ≤ '9' then BitVec.ofNat 4 (c.toNat - 48) else 0

/-- `cmd_chan` of a string (R72). -/
def parseChannel (t : List Char) : BitVec 4 :=
  match t with
  | [] => 0
  | [_] => 0
  | _ :: c :: _ => digitValue c

/-- `cmd_act` of a string (R72): "on" is tested first. -/
def parseAction (t : List Char) : BitVec 2 :=
  if (t.drop 2).map lowerChar = ['o', 'n'] then 0b01
  else if (t.drop 2).map lowerChar = ['o', 'f', 'f'] then 0b10
  else 0b00

/-- `parse` (R72): total; a malformed string gives invalid operands. -/
def parseCommand (t : List Char) : Command := ⟨parseGroup t, parseChannel t, parseAction t⟩

/-- The group letter of `print` (R72); the letter for the invalid code is never used. -/
def groupLetter (grp : BitVec 2) : Char :=
  if grp = 0 then 'a' else if grp = 1 then 'b' else if grp = 2 then 'c' else '?'

/-- The action word of `print` (R72). -/
def actionWord (act : BitVec 2) : List Char := if act = 0b01 then ['o', 'n'] else ['o', 'f', 'f']

/-- `print` (R72): the canonical lower-case string of a valid Command. -/
def printCommand (c : Command) : List Char :=
  groupLetter c.grp :: Char.ofNat (48 + c.chan.toNat) :: actionWord c.act

/-- A line of a program (R73). -/
inductive Line where
  | nop
  | enc (t : List Char)
  | send (t : List Char)
  | dec (bytes : List Byte)
  | clr
  deriving DecidableEq, Repr

/-- What a line puts on the host's ports (R73): the length of DEC is the number of bytes written, which the 8-bit
`dec_len` port can carry up to 255 (R6); `none` for a longer one. -/
def Line.instr : Line → Option Instr
  | .nop => some .nop
  | .enc t => some (.enc (parseCommand t))
  | .send t => some (.send (parseCommand t))
  | .dec bytes =>
    if bytes.length < 2 ^ Config.decLenW then
      some (.dec (BitVec.ofNat Config.decLenW bytes.length) (frameOfBytes bytes))
    else none
  | .clr => some .clr

end Sys2Proof.Machine
end

