-- ==== Sys2Proof/Safety.lean ====
section
/-! DEFINITION. The terms in which claims speak of safe runs: the invariants that spec/10_state.md R28 lists for every
reachable state, and the shape of the TX stream during a handshake (spec/20_memory.md R48). -/

namespace Sys2Proof.Machine

/-- The Command is one of the 48 valid ones (R93). -/
def validCommand (c : Command) : Bool := encCheck c == 0

/-- A frame is the encoding of some valid Command (R28 item 4). -/
def IsTelegram (f : Frame) : Prop := ∃ c : Command, validCommand c = true ∧ f = frameOf c

/-- Item 2 of R28. -/
def ReasonInv (r : Regs) : Prop := r.reason ≠ .none ↔ r.hs = .failed

/-- Item 3 of R28. -/
def IndexInv (r : Regs) : Prop :=
  r.txidx.toNat ≤ 12 ∧ (r.hs = .complete → r.txidx = 12) ∧ (r.hs = .await ∨ r.hs = .idle → r.txidx = 0) ∧
    (r.hs = .failed → r.reason = .timeout ∨ r.reason = .unexpected → r.txidx = 0)

/-- Items 4 and 5 of R28, as far as they speak of one state. -/
def BufferInv (r : Regs) : Prop :=
  (r.hs = .await ∨ r.hs = .xmit ∨ r.hs = .complete → r.tbValid = true) ∧
    (r.tbValid = true → IsTelegram r.tb) ∧ (r.hs = .await ∨ r.hs = .xmit → r.encErr = 0)

/-- Item 6 of R28, in every state and not only in AWAIT (spec/95_test_vectors.md Q6). -/
def TimerInv (p : Params) (r : Regs) : Prop := r.attTmr.toNat < p.attemptTicks ∧ r.attCnt.toNat < p.maxAttempts

/-- Items 7 and 8 of R28; `taken` says that a DEC has been taken since reset. -/
def DecodeInv (taken : Bool) (r : Regs) : Prop :=
  (r.dcmdValid = true ↔ r.decErr = .ok ∧ taken = true) ∧
    (r.dcmdValid = true → validCommand ⟨r.dgrp, r.dchan, r.dact⟩ = true)

/-- All of R28 that speaks of one state (item 1 is in the type of `HS`). -/
def RegsInv (s : State) : Prop :=
  ReasonInv s.regs ∧ IndexInv s.regs ∧ BufferInv s.regs ∧ TimerInv s.cfg s.regs ∧ DecodeInv s.decTaken s.regs

/-- During a handshake the TX stream ends with INQ and the first `TXIDX` telegram bytes (R48, Q8). -/
def StreamInv (s : State) : Prop :=
  (s.regs.hs = .await → ∃ before : List Byte, s.tx = before ++ [Config.inq]) ∧
    (s.regs.hs = .xmit → s.regs.txidx.toNat ≤ 12 ∧ ∃ before : List Byte,
      s.tx = before ++ Config.inq :: (Frame.elements s.regs.tb).take s.regs.txidx.toNat)

/-- `k` steps of the machine. -/
def runSteps (k : Nat) (s : State) : Result := Host.Core.run
  { State := State, Fault := Fault, Refusal := Refusal, step := step, reset := State.reset } k s

/-- A Command-free step as the silent environment of R142 presents it: NOP, no reset, no byte arriving. -/
def SilentPins (p : Pins) : Prop :=
  p.rst = false ∧ p.acts = [] ∧ ∃ h : HostPorts, p.word = .hop h ∧ h.op = 0

/-- How many of the steps bring a tick. -/
def ticksIn (l : List Pins) : Nat := (l.filter fun p => p.tick).length

end Sys2Proof.Machine
end

