-- ==== Sys2Proof/Certificates/Slice0/Obligations.lean ====
section
/-! DEFINITION. The statements handed to the provers. -/

namespace Sys2Proof.Machine

/-- The block takes no state-machine step in this state (R120). -/
def NotBusy (s : State) : Prop := HState.isBusy s.regs.hs = false

/-- The block is in a handshake (R120). -/
def Busy (s : State) : Prop := HState.isBusy s.regs.hs = true

/-- The three operands name a group, a channel and an action (R62, R63). -/
def GoodOperands (c : Command) : Prop :=
  (c.grp = 0 ∨ c.grp = 1 ∨ c.grp = 2) ∧ (1 ≤ c.chan.toNat ∧ c.chan.toNat ≤ 8) ∧ (c.act = 0b01 ∨ c.act = 0b10)

/-- The outputs of a step in which the operation is taken and nothing is offered to the port. -/
def Acked (s : State) : Outputs := { stateOutputs s.regs with opAck := true }

/-- The state-machine outputs of a busy step, `rej` telling whether a host operation was refused beside it. -/
def BusyOutputs (rej : Bool) (s : State) : Outputs := { stateOutputs s.regs with opRej := rej }

/-- The outcome of a step with `op_rej` driven beside it. -/
def withRejection : Result → Result
  | .next t => .next { t with out := { t.out with opRej := true } }
  | .fault r => .fault r
  | .refused r => .refused r

/-- The bytes an instruction brings on the line. -/
def lineBytes : Instr → List Byte
  | .inq => [0xFA]
  | .ack => [0x05]
  | _ => []

/-- The bytes a presented word brings on the line. -/
def wordLineBytes : Presented → List Byte
  | .ctrl b => [b]
  | _ => []

/-- In a state that is not busy the command word builds the telegram with DeviceByte `d` and checksum `k`, leaves the
ten-byte sum `acc` in the accumulator, and changes nothing else but the telegram's valid bit, the error mask, the record
of the outputs, and the model's own flag `ckWritten` (log entry 9). -/
def BuildsTelegram (i : Instr) (d acc k : Byte) : Prop :=
  ∀ s : State, NotBusy s → exec i s = .next { s with
    regs := { s.regs with
      tb := ⟨0x55, 0x16, 0x00, d, 0x01, 0x00, 0x00, 0x00, 0x00, 0x00, k, 0xAA⟩
      tbValid := true
      ckacc := acc
      encErr := 0 }
    ckWritten := true
    out := Acked s }

/-- Ports presenting SEND of a Command to a ready port, the device's ACK arriving after the step. -/
def sendPins (c : Command) : Pins :=
  { Pins.idle with word := .hop ⟨3, c, 0, zeroFrame⟩, txReady := true, acts := [.arrive 0x05] }

/-- The outputs of a step from `s` that are the state's (R23), with those that depend on inputs as R8 and R120 bound them. -/
def OutputsOf (s t : State) : Prop :=
  (t.out.wrLock = true ↔ s.regs.hs = .await ∨ s.regs.hs = .xmit) ∧ t.out.busy = t.out.wrLock ∧
  (t.out.rdOwn = true ↔ s.regs.hs = .await) ∧ (t.out.done = true ↔ s.regs.hs = .complete) ∧
  (t.out.failed = true ↔ s.regs.hs = .failed) ∧ t.out.readBack = s.regs ∧
  (t.out.txValid = false → t.out.txData = 0) ∧ ¬ (t.out.opAck = true ∧ t.out.opRej = true)

/-- Ports that bring no byte: `rst` = 0, no agent acts, and any host operation, reserved codes among them, at `op`. -/
def NoBytePins (p : Pins) : Prop :=
  p.rst = false ∧ p.acts = [] ∧ ∃ h : HostPorts, p.word = .hop h

/-- Ports with the transport ready to take a byte. -/
def readyPins : Pins := { Pins.idle with txReady := true }

/-- Ports with the flush completed. -/
def flushPins : Pins := { Pins.idle with flushDone := true }

/-- What the Keyboard Loop puts on the line for a newline (R172, G2). -/
def newlineOnWire : NewlineMode → List Byte
  | .lf => [0x0A]
  | .cr => [0x0D]
  | .crlf => [0x0D, 0x0A]

end Sys2Proof.Machine

open Sys2Proof Sys2Proof.Machine

/-! ### Encodings -/

/-- Decode and encode agree for every well-formed instruction (R60, R66, R67, R68, R74). The word formats at the ports
are the model's reading (log entry 1). -/
def Obligations.DecodeEncodeRoundTrip : Prop :=
  ∀ i : Instr, wellFormed i = true → decode (encode i) = .ok i

/-- A word the decoder accepts is the encoding of the instruction it gives; a host operation's word may differ from it
only on operand ports that the operation does not read (R53, R60). The word formats at the ports are the model's
reading (log entry 1). -/
def Obligations.AcceptedWordIsItsEncoding : Prop :=
  (∀ b i, decode (.ctrl b) = .ok i → encode i = .ctrl b) ∧
  (∀ f i, decode (.tgm f) = .ok i → encode i = .tgm f) ∧
  (∀ d i, decode (.devb d) = .ok i → encode i = .devb d) ∧
  (∀ h i, decode (.hop h) = .ok i → ∃ h', encode i = .hop h' ∧ h'.op = h.op ∧
    (h.op = 1 ∨ h.op = 3 → h'.cmd = h.cmd) ∧ (h.op = 2 → h'.decLen = h.decLen ∧ h'.decFrame = h.decFrame))

/-- Words written out from the tables of spec/30_encoding.md (R60, R66, R67, R68) decode to their instructions. The
word formats at the ports are the model's reading (log entry 1). -/
def Obligations.WrittenOutWordsDecode : Prop :=
  decode (.hop ⟨0b000, ⟨0, 0, 0⟩, 0, zeroFrame⟩) = .ok .nop ∧
  decode (.hop ⟨0b011, ⟨2, 8, 0b10⟩, 0, zeroFrame⟩) = .ok (.send ⟨2, 8, 0b10⟩) ∧
  decode (.hop ⟨0b100, ⟨0, 0, 0⟩, 0, zeroFrame⟩) = .ok .clr ∧
  decode (.ctrl 0b11111010) = .ok .inq ∧ decode (.ctrl 0b00000101) = .ok .ack ∧
  decode (.tgm ⟨0x55, 0x16, 0, 0b01000000, 1, 0, 0, 0, 0, 0, 0x54, 0xAA⟩) = .ok (.tgmOn 0 0 0x54) ∧
  decode (.tgm ⟨0x55, 0x16, 0, 0b10010111, 1, 0, 0, 0, 0, 0, 0xFD, 0xAA⟩) = .ok (.tgmOff 2 7 0xFD) ∧
  decode (.devb 0b01000011) = .ok .a4on ∧ decode (.devb 0b10010111) = .ok .c8off ∧
  decode (.hop ⟨0b101, ⟨0, 0, 0⟩, 0, zeroFrame⟩) = .error (.reservedOp 5) ∧
  decode (.devb 0b01100000) = .error (.notDeviceByte 0x60)

/-- A byte is a command word exactly when its bits are those of a DeviceByte (R66). The word format at the ports is
the model's reading (log entry 1). -/
def Obligations.CommandWordBits : Prop :=
  ∀ d : Byte, (∃ i, decode (.devb d) = .ok i) ↔
    ((d.getLsbD 7 = false ∧ d.getLsbD 6 = true) ∨ (d.getLsbD 7 = true ∧ d.getLsbD 6 = false)) ∧
      d.getLsbD 5 = false ∧ ¬ (d.getLsbD 4 = true ∧ d.getLsbD 3 = true)

/-- A 12-byte sequence is a telegram exactly when it matches a pattern with a group and the right checksum, and those
are the sequences the codec decodes (R67, R101). The word format at the ports is the model's reading (log entry 1). -/
def Obligations.WellFormedTelegramsAreTheDecodable : Prop :=
  ∀ f : Frame, (∃ i, decode (.tgm f) = .ok i ∧ wellFormed i = true) ↔ ∃ c, codecDecode 12 f = .command c

/-- The reserved codes are refused in every state: nothing is written by the operation and a handshake carries on as if
`op` were NOP (R61). -/
def Obligations.ReservedOpsRefused : Prop :=
  ∀ (s : State) (h : HostPorts), s.pins.word = .hop h → (h.op = 5 ∨ h.op = 6 ∨ h.op = 7) → s.pins.rst = false →
    step s = finish (withRejection (exec .nop s)) ∧
    (∀ t, exec .nop s = .next t → t.out.opAck = false)

/-! ### The codec and the checksum -/

/-- `enc_check` gives bit 0 for the group, bit 1 for the channel, bit 2 for the action, and 0 exactly for the 48 valid
Commands (R93). -/
def Obligations.EncodeErrorMask : Prop :=
  (∀ c : Command, ((encCheck c).getLsbD 0 = true ↔ c.grp = 3) ∧
    ((encCheck c).getLsbD 1 = true ↔ c.chan = 0 ∨ 9 ≤ c.chan.toNat) ∧
    ((encCheck c).getLsbD 2 = true ↔ c.act = 0b00 ∨ c.act = 0b11) ∧
    (encCheck c = 0 ↔ GoodOperands c)) ∧
  ((List.range 256).filter fun n => encCheck (unpackCommand (BitVec.ofNat 8 n)) == 0).length = 48

/-- The DeviceByte of a valid Command is `group_base | (channel - 1) | action_flag`, where `|` equals `+`, and the
concatenation of R65; the terms' values (R65), and the source's two examples (R91). -/
def Obligations.DeviceByteAssembly : Prop :=
  (∀ c : Command, GoodOperands c →
    devbyte c = groupBase c.grp ||| (c.chan.setWidth 8 - 1) ||| actionFlag c.act ∧
    devbyte c = groupBase c.grp + (c.chan.setWidth 8 - 1) + actionFlag c.act ∧
    devbyte c = c.act ++ 0#1 ++ c.grp ++ (c.chan - 1).setWidth 3) ∧
  groupBase 0 = 0x00 ∧ groupBase 1 = 0x08 ∧ groupBase 2 = 0x10 ∧ actionFlag 0b01 = 0x40 ∧ actionFlag 0b10 = 0x80 ∧
  devbyte ⟨0, 1, 0b01⟩ = 0x40 ∧ devbyte ⟨2, 8, 0b10⟩ = 0x97

/-- `valid_devbyte` by its bits, and the 48 values in the image of `devbyte` as the values it holds for (R97). That
these are the image of `devbyte` is the spec's own inference ("[derived: from rule R91]" in R97). -/
def Obligations.ValidDeviceBytesAreTheImage : Prop :=
  (∀ d : Byte, validDevbyte d = true ↔
    (d.extractLsb' 6 2 = 0b01#2 ∨ d.extractLsb' 6 2 = 0b10#2) ∧ d.getLsbD 5 = false ∧ d.extractLsb' 3 2 ≠ 0b11#2) ∧
  (∀ d : Byte, validDevbyte d = true ↔ ∃ c, GoodOperands c ∧ devbyte c = d) ∧
  ((List.range 256).filter fun n => validDevbyte (BitVec.ofNat 8 n)).length = 48

/-- The fields of `cmd_of_devbyte`, and that it and `devbyte` are inverse (R99). That they are inverse is the spec's
own inference ("[derived: from rule R91]" in R99). -/
def Obligations.DeviceByteInverse : Prop :=
  (∀ d : Byte, validDevbyte d = true → (cmdOfDevbyte d).grp = d.extractLsb' 3 2 ∧
    (cmdOfDevbyte d).chan.toNat = (d.extractLsb' 0 3).toNat + 1 ∧ (cmdOfDevbyte d).act = d.extractLsb' 6 2) ∧
  (∀ c : Command, GoodOperands c → cmdOfDevbyte (devbyte c) = c) ∧
  (∀ d : Byte, validDevbyte d = true → devbyte (cmdOfDevbyte d) = d ∧ GoodOperands (cmdOfDevbyte d))

/-- The frame of a Command, cell by cell (R92), and when `encode` gives it (R95). That cell 10, the checksum, is
`(0x94 - d) mod 256` is the spec's own inference ("[derived: 256 - 0x6C = 0x94; from `41_checksum.md` rule R112]" in
R92). -/
def Obligations.EncodeGivesTheFrame : Prop :=
  ∀ c : Command,
    (GoodOperands c → codecEncode c = .frame
      ⟨0x55, 0x16, 0x00, devbyte c, 0x01, 0x00, 0x00, 0x00, 0x00, 0x00, 0x94 - devbyte c, 0xAA⟩) ∧
    (¬ GoodOperands c → codecEncode c = .encodeError (encCheck c) ∧ encCheck c ≠ 0)

/-- `decode` makes its six checks in the order of R98 and the first that fails decides the code. -/
def Obligations.DecodeChecksInOrder : Prop :=
  ∀ s : List Byte, codecDecodeSeq s =
    if s.length ≠ 12 then .decodeError .length
    else if s.getD 0 0 ≠ 0x55 ∨ s.getD 1 0 ≠ 0x16 ∨ s.getD 2 0 ≠ 0x00 then .decodeError .header
    else if s.getD 11 0 ≠ 0xAA then .decodeError .term
    else if sum8 (s.take 11) ≠ 0 then .decodeError .checksum
    else if (s.drop 4).take 6 ≠ [0x01, 0x00, 0x00, 0x00, 0x00, 0x00] then .decodeError .payload
    else if validDevbyte (s.getD 3 0) = false then .decodeError .devbyte
    else .command (cmdOfDevbyte (s.getD 3 0))

/-- Round-trip laws (R101): decoding an encoded Command gives it back, an accepted sequence is the encoding of what
was decoded, exactly 48 sequences are accepted, and cells 0 to 10 of a frame sum to 0. That the converse holds is the
spec's own inference ("[derived: from rule R92 and rule R98]" in R101). -/
def Obligations.CodecRoundTrip : Prop :=
  (∀ c : Command, GoodOperands c → ∃ f, codecEncode c = .frame f ∧ codecDecodeSeq (Frame.elements f) = .command c) ∧
  (∀ (s : List Byte) (c : Command), codecDecodeSeq s = .command c →
    ∃ f, codecEncode c = .frame f ∧ Frame.elements f = s) ∧
  Set.ncard { s : List Byte | ∃ c, codecDecodeSeq s = .command c } = 48 ∧
  (∀ (c : Command) (f : Frame), codecEncode c = .frame f → sum8 ((Frame.elements f).take 11) = 0)

/-- `sum8` is the sum modulo 256, equally the fold of `ck_add`, and does not depend on the order of the bytes (R111).
The spec infers it from the accumulator ("[derived: from rule R110]" in R111). -/
def Obligations.SumIgnoresOrder : Prop :=
  (∀ q : List Byte, (sum8 q).toNat = (q.map BitVec.toNat).sum % 256 ∧ sum8 q = q.foldl ckAdd 0) ∧
  (∀ p q : List Byte, p.Perm q → sum8 p = sum8 q) ∧ sum8 [] = 0

/-- The checksum formula and its equivalent forms; among valid Commands only c5off, DeviceByte 0x94 and ten-byte sum
0x100, has a ten-byte sum of 0 modulo 256 (R112). -/
def Obligations.ChecksumFormula : Prop :=
  (∀ p : List Byte, (cksum p).toNat = (256 - (p.map BitVec.toNat).sum % 256) % 256 ∧
    cksum p = 0 - sum8 p ∧ cksum p = (sum8 p ^^^ 0xFF) + 1) ∧
  (∀ c : Command, GoodOperands c → (sum8 (framePart c) = 0 ↔ c = ⟨2, 5, 0b10⟩)) ∧
  devbyte ⟨2, 5, 0b10⟩ = 0x94 ∧ ((framePart ⟨2, 5, 0b10⟩).map BitVec.toNat).sum = 0x100

/-- `ck_ok` is the sum of cells 0 to 10 being 0 modulo 256, and for every ten bytes the checksum is the only value of
cell 10 under which it holds, whatever the terminator (R113). That the value is unique is the spec's own inference
("[derived: from rule R112]" in R113). -/
def Obligations.ChecksumCellUnique : Prop :=
  (∀ f : Frame, ckOk f = true ↔ (((Frame.elements f).take 11).map BitVec.toNat).sum % 256 = 0) ∧
  ∀ (p0 p1 p2 p3 p4 p5 p6 p7 p8 p9 k t : Byte),
    ckOk ⟨p0, p1, p2, p3, p4, p5, p6, p7, p8, p9, k, t⟩ = true ↔ k = cksum [p0, p1, p2, p3, p4, p5, p6, p7, p8, p9]

/-- What the checksum detects (R115): one changed cell among 0 to 10 always; two different cells among 0 to 10 changed
by amounts that cancel, or exchanged, never, for example a DeviceByte raised by 1 with the checksum lowered by 1,
which is another telegram; the terminator never. The spec's own inference ("[derived: from rule R113]" in R115). -/
def Obligations.ChecksumDetectsOneChange : Prop :=
  (∀ (f : Frame) (i : Nat) (b : Byte), ckOk f = true → i < 11 → (Frame.beforeTerminator f)[i]? ≠ some b →
    sum8 ((Frame.beforeTerminator f).set i b) ≠ 0) ∧
  (∀ (f : Frame) (i j : Nat) (x y d : Byte), i < 11 → j < 11 → i ≠ j →
    (Frame.beforeTerminator f)[i]? = some x → (Frame.beforeTerminator f)[j]? = some y →
    (sum8 (((Frame.beforeTerminator f).set i (x + d)).set j (y - d)) = 0 ↔ ckOk f = true) ∧
    (sum8 (((Frame.beforeTerminator f).set i y).set j x) = 0 ↔ ckOk f = true)) ∧
  (∀ c c' : Command, GoodOperands c → GoodOperands c' → devbyte c' = devbyte c + 1 →
    frameOf c' = { frameOf c with b3 := (frameOf c).b3 + 1, b10 := (frameOf c).b10 - 1 }) ∧
  (∀ (f : Frame) (t : Byte), ckOk { f with b11 := t } = ckOk f)

/-- `parse(print(c)) = c` for every valid Command; a string parses to operands the encoder accepts only when it is, in
either case of its letters, the canonical string of the Command it parses to, so every malformed string gives operands
the encoder rejects; and every such string parses to that Command (R71, R72). Some strings by their values. -/
def Obligations.ParsePrintRoundTrip : Prop :=
  (∀ c : Command, GoodOperands c → parseCommand (printCommand c) = c) ∧
  (∀ t : List Char, encCheck (parseCommand t) = 0 → t.map lowerChar = printCommand (parseCommand t)) ∧
  (∀ (c : Command) (t : List Char), GoodOperands c → t.map lowerChar = printCommand c → parseCommand t = c) ∧
  parseCommand ['C', '8', 'O', 'f', 'f'] = ⟨2, 8, 0b10⟩ ∧
  encCheck (parseCommand ['a', '1', 'o', 'n', 'n']) = 0b100 ∧
  encCheck (parseCommand ['1', 'a', 'o', 'n']) = 0b011 ∧ encCheck (parseCommand []) = 0b111

/-! ### Host operations -/

/-- NOP, code 0b000, whatever stands on the operand ports (R53, R60): in a state that is not busy it completes and
writes nothing (R139, R137). -/
def Obligations.NopChangesNothing : Prop :=
  (∀ h : HostPorts, h.op = 0b000 → decode (.hop h) = .ok .nop) ∧
  ∀ s : State, NotBusy s → exec .nop s = .next { s with out := stateOutputs s.regs }

/-- ENC, code 0b001: refused while busy; otherwise, of a valid Command it builds the telegram, which the host can then
read with the accumulator, of an invalid one it writes the mask of causes and nothing else (R96). What the host then
reads is the spec's own inference ("a model should make such a read yield no value" in R27, derived) in the model's
form, the flag `ckWritten` with it (log entry 9). Cell 10 as `0x94 - d` is the spec's own inference ("[derived: 256 -
0x6C = 0x94" in R92). -/
def Obligations.EncBuildsOrReports : Prop :=
  (∀ h : HostPorts, h.op = 0b001 → decode (.hop h) = .ok (.enc h.cmd)) ∧
  (∀ (c : Command) (s : State), Busy s → exec (.enc c) s = withRejection (exec .nop s)) ∧
  ∀ (c : Command) (s : State), NotBusy s →
    (GoodOperands c → exec (.enc c) s = .next { s with
      regs := { s.regs with
        encErr := 0
        tb := ⟨0x55, 0x16, 0x00, devbyte c, 0x01, 0x00, 0x00, 0x00, 0x00, 0x00, 0x94 - devbyte c, 0xAA⟩
        tbValid := true
        ckacc := 0x6C + devbyte c }
      ckWritten := true
      out := Acked s }) ∧
    (¬ GoodOperands c → exec (.enc c) s = .next { s with
      regs := { s.regs with encErr := encCheck c }
      out := Acked s }) ∧
    (GoodOperands c → ∀ t, exec (.enc c) s = .next t →
      hostReadTb t = some (frameOf c) ∧ hostReadCkacc t = some (0x6C + devbyte c))

/-- DEC, code 0b010: refused while busy; otherwise it writes the code of the first failing check, the Command when
there is one, and the accumulator when the length is 12, and touches nothing else; a length other than 12 gives
D_LENGTH whatever stands on the frame ports, no byte of which is examined, and at length 12 the twelve bytes are
decoded (R44, R100). That the host then reads the Command, or no value after a failure, and the accumulator is the
spec's own inference ("a model should make such a read yield no value" in R27, derived) in the model's form, the flags
`ckWritten` and `decTaken` with it (log entry 9). -/
def Obligations.DecRecordsResult : Prop :=
  (∀ h : HostPorts, h.op = 0b010 → decode (.hop h) = .ok (.dec h.decLen h.decFrame)) ∧
  (∀ (len : BitVec Config.decLenW) (f : Frame), len ≠ 12 → codecDecode len.toNat f = .decodeError .length) ∧
  (∀ f : Frame, codecDecode 12 f = codecDecodeSeq (Frame.elements f)) ∧
  (∀ (len : BitVec Config.decLenW) (f : Frame) (s : State), Busy s → exec (.dec len f) s = withRejection (exec .nop s)) ∧
  ∀ (len : BitVec Config.decLenW) (f : Frame) (s : State), NotBusy s →
    exec (.dec len f) s = .next { s with
      regs :=
        match codecDecode len.toNat f with
        | .command c => { s.regs with
            ckacc := f.b0 + f.b1 + f.b2 + f.b3 + f.b4 + f.b5 + f.b6 + f.b7 + f.b8 + f.b9 + f.b10
            decErr := .ok, dcmdValid := true, dgrp := c.grp, dchan := c.chan, dact := c.act }
        | .decodeError e => { s.regs with
            ckacc := if len = 12 then f.b0 + f.b1 + f.b2 + f.b3 + f.b4 + f.b5 + f.b6 + f.b7 + f.b8 + f.b9 + f.b10
              else s.regs.ckacc
            decErr := e, dcmdValid := false }
      ckWritten := s.ckWritten || decide (len = 12)
      decTaken := true
      out := Acked s } ∧
    (∀ t, exec (.dec len f) s = .next t →
      (∀ c, codecDecode len.toNat f = .command c → hostReadDecoded t = some c) ∧
      (∀ e, codecDecode len.toNat f = .decodeError e → hostReadDecoded t = none) ∧
      (len = 12 → hostReadCkacc t = some t.regs.ckacc))

/-- SEND of an invalid Command is taken, records the causes, leaves IDLE, and offers nothing to the port (R122). -/
def Obligations.SendInvalidLeavesIdle : Prop :=
  ∀ (c : Command) (s : State), NotBusy s → ¬ GoodOperands c →
    exec (.send c) s = .next { s with
      regs := { s.regs with encErr := encCheck c, hs := .idle, reason := .none, txidx := 0 }
      out := Acked s }

/-- SEND, code 0b011, whatever stands on the operand ports it does not read (R53, R60): of a valid Command to a port
that is ready and shows no error it transfers INQ, builds the telegram and enters AWAIT with the timers at 0 (R122).
The flag `ckWritten` is the model's own (log entry 9). Cell 10 as `0x94 - d` is the spec's own inference ("[derived:
256 - 0x6C = 0x94" in R92). -/
def Obligations.SendStartsHandshake : Prop :=
  (∀ h : HostPorts, h.op = 0b011 → decode (.hop h) = .ok (.send h.cmd)) ∧
  ∀ (c : Command) (s : State), NotBusy s → GoodOperands c → s.pins.txErr = false → s.pins.txReady = true →
    exec (.send c) s = .next { s with
      regs := { s.regs with
        tb := ⟨0x55, 0x16, 0x00, devbyte c, 0x01, 0x00, 0x00, 0x00, 0x00, 0x00, 0x94 - devbyte c, 0xAA⟩
        tbValid := true, encErr := 0, ckacc := 0x6C + devbyte c
        hs := .await, reason := .none, txidx := 0, attTmr := 0, attCnt := 0 }
      tx := s.tx ++ [0xFA]
      ckWritten := true
      out := { Acked s with txValid := true, txData := 0xFA } }

/-- SEND of a valid Command to a port that shows neither ready nor error offers INQ and writes nothing (R123). -/
def Obligations.SendWaitsForPort : Prop :=
  ∀ (c : Command) (s : State), NotBusy s → GoodOperands c → s.pins.txErr = false → s.pins.txReady = false →
    exec (.send c) s = .next { s with out := { stateOutputs s.regs with txValid := true, txData := 0xFA } }

/-- A write error on INQ, whatever `tx_ready` is, takes the SEND, builds the telegram and ends in FAILED with
WRITE_ERR; nothing is transferred or popped (R124). The flag `ckWritten` is the model's own (log entry 9). Cell 10 as
`0x94 - d` is the spec's own inference ("[derived: 256 - 0x6C = 0x94" in R92). -/
def Obligations.SendWriteErrorFails : Prop :=
  ∀ (c : Command) (s : State), NotBusy s → GoodOperands c → s.pins.txErr = true →
    exec (.send c) s = .next { s with
      regs := { s.regs with
        tb := ⟨0x55, 0x16, 0x00, devbyte c, 0x01, 0x00, 0x00, 0x00, 0x00, 0x00, 0x94 - devbyte c, 0xAA⟩
        tbValid := true, encErr := 0, ckacc := 0x6C + devbyte c
        hs := .failed, reason := .writeErr, txidx := 0 }
      ckWritten := true
      out := { Acked s with txValid := true, txData := 0xFA } }

/-- CLR, code 0b100: refused while busy; otherwise it leaves IDLE, NONE and index 0, keeps every other register, and so
changes no register of an IDLE state as R28 describes it (R138, R200). -/
def Obligations.ClrDestroysInstance : Prop :=
  (∀ h : HostPorts, h.op = 0b100 → decode (.hop h) = .ok .clr) ∧
  (∀ s : State, Busy s → exec .clr s = withRejection (exec .nop s)) ∧
  (∀ s : State, RegsInv s → s.regs.hs = .idle → exec .clr s = .next { s with out := Acked s }) ∧
  ∀ s : State, NotBusy s → exec .clr s = .next { s with
    regs := { s.regs with hs := .idle, reason := .none, txidx := 0 }
    out := Acked s }

/-- While busy every operation but NOP is refused: the step is the state machine's own with `op_rej` beside it, so the
operation itself writes no register (R121). R121 speaks of host operations; that a presented telegram or command word
counts as one, and so drives `op_rej`, is the model's reading (log entry 1). -/
def Obligations.BusyRefusesOperations : Prop :=
  ∀ (i : Instr) (s : State), Busy s → i ≠ .nop → i ≠ .inq → i ≠ .ack →
    exec i s = withRejection (exec .nop s) ∧
    (∀ t, exec .nop s = .next t → t.out.opAck = false ∧ t.out.opRej = false)

/-- While busy no instruction writes the telegram, the accumulator, the error mask or a decode register (R53, R121).
For the rows of the formats CTRL, TGM and DEVB, that the block takes a step on them is the model's reading (log entry
1). -/
def Obligations.TelegramFixedWhileBusy : Prop :=
  ∀ (i : Instr) (s t : State), Busy s → exec i s = .next t →
    t.regs.tb = s.regs.tb ∧ t.regs.tbValid = s.regs.tbValid ∧ t.regs.ckacc = s.regs.ckacc ∧
    t.regs.encErr = s.regs.encErr ∧ t.regs.decErr = s.regs.decErr ∧ t.regs.dcmdValid = s.regs.dcmdValid ∧
    t.regs.dgrp = s.regs.dgrp ∧ t.regs.dchan = s.regs.dchan ∧ t.regs.dact = s.regs.dact

/-- In a state that is not busy only SEND and CLR touch the handshake: every other instruction leaves `HS`, `REASON`,
`TXIDX`, the timers and the TX stream, and drives neither `tx_valid` nor `tx_flush` (R96, R100, R137). For the rows of
the formats CTRL, TGM and DEVB, that the block takes a step on them is the model's reading (log entry 1). -/
def Obligations.OnlySendAndClrTouchHandshake : Prop :=
  ∀ (i : Instr) (s t : State), NotBusy s → (∀ c, i ≠ .send c) → i ≠ .clr → exec i s = .next t →
    t.regs.hs = s.regs.hs ∧ t.regs.reason = s.regs.reason ∧ t.regs.txidx = s.regs.txidx ∧
    t.regs.attTmr = s.regs.attTmr ∧ t.regs.attCnt = s.regs.attCnt ∧ t.tx = s.tx ∧
    t.out.txValid = false ∧ t.out.txFlush = false

/-! ### Command words and wire symbols -/

/-- The sixteen command words of group A: DeviceByte, ten-byte sum and checksum from table V2 (R91, R92, R112). That
the word is presented to the encoder is the model's reading (log entry 1). The flag `ckWritten` is the model's own
(log entry 9). -/
def Obligations.CommandWordsGroupA : Prop :=
  BuildsTelegram .a1on 0x40 0xAC 0x54 ∧
  BuildsTelegram .a2on 0x41 0xAD 0x53 ∧
  BuildsTelegram .a3on 0x42 0xAE 0x52 ∧
  BuildsTelegram .a4on 0x43 0xAF 0x51 ∧
  BuildsTelegram .a5on 0x44 0xB0 0x50 ∧
  BuildsTelegram .a6on 0x45 0xB1 0x4F ∧
  BuildsTelegram .a7on 0x46 0xB2 0x4E ∧
  BuildsTelegram .a8on 0x47 0xB3 0x4D ∧
  BuildsTelegram .a1off 0x80 0xEC 0x14 ∧
  BuildsTelegram .a2off 0x81 0xED 0x13 ∧
  BuildsTelegram .a3off 0x82 0xEE 0x12 ∧
  BuildsTelegram .a4off 0x83 0xEF 0x11 ∧
  BuildsTelegram .a5off 0x84 0xF0 0x10 ∧
  BuildsTelegram .a6off 0x85 0xF1 0x0F ∧
  BuildsTelegram .a7off 0x86 0xF2 0x0E ∧
  BuildsTelegram .a8off 0x87 0xF3 0x0D

/-- The sixteen command words of group B: DeviceByte, ten-byte sum and checksum from table V2 (R91, R92, R112). That
the word is presented to the encoder is the model's reading (log entry 1). The flag `ckWritten` is the model's own
(log entry 9). -/
def Obligations.CommandWordsGroupB : Prop :=
  BuildsTelegram .b1on 0x48 0xB4 0x4C ∧
  BuildsTelegram .b2on 0x49 0xB5 0x4B ∧
  BuildsTelegram .b3on 0x4A 0xB6 0x4A ∧
  BuildsTelegram .b4on 0x4B 0xB7 0x49 ∧
  BuildsTelegram .b5on 0x4C 0xB8 0x48 ∧
  BuildsTelegram .b6on 0x4D 0xB9 0x47 ∧
  BuildsTelegram .b7on 0x4E 0xBA 0x46 ∧
  BuildsTelegram .b8on 0x4F 0xBB 0x45 ∧
  BuildsTelegram .b1off 0x88 0xF4 0x0C ∧
  BuildsTelegram .b2off 0x89 0xF5 0x0B ∧
  BuildsTelegram .b3off 0x8A 0xF6 0x0A ∧
  BuildsTelegram .b4off 0x8B 0xF7 0x09 ∧
  BuildsTelegram .b5off 0x8C 0xF8 0x08 ∧
  BuildsTelegram .b6off 0x8D 0xF9 0x07 ∧
  BuildsTelegram .b7off 0x8E 0xFA 0x06 ∧
  BuildsTelegram .b8off 0x8F 0xFB 0x05

/-- The sixteen command words of group C: DeviceByte, ten-byte sum and checksum from table V2 (R91, R92, R112). That
the word is presented to the encoder is the model's reading (log entry 1). The flag `ckWritten` is the model's own
(log entry 9). -/
def Obligations.CommandWordsGroupC : Prop :=
  BuildsTelegram .c1on 0x50 0xBC 0x44 ∧
  BuildsTelegram .c2on 0x51 0xBD 0x43 ∧
  BuildsTelegram .c3on 0x52 0xBE 0x42 ∧
  BuildsTelegram .c4on 0x53 0xBF 0x41 ∧
  BuildsTelegram .c5on 0x54 0xC0 0x40 ∧
  BuildsTelegram .c6on 0x55 0xC1 0x3F ∧
  BuildsTelegram .c7on 0x56 0xC2 0x3E ∧
  BuildsTelegram .c8on 0x57 0xC3 0x3D ∧
  BuildsTelegram .c1off 0x90 0xFC 0x04 ∧
  BuildsTelegram .c2off 0x91 0xFD 0x03 ∧
  BuildsTelegram .c3off 0x92 0xFE 0x02 ∧
  BuildsTelegram .c4off 0x93 0xFF 0x01 ∧
  BuildsTelegram .c5off 0x94 0x00 0x00 ∧
  BuildsTelegram .c6off 0x95 0x01 0xFF ∧
  BuildsTelegram .c7off 0x96 0x02 0xFE ∧
  BuildsTelegram .c8off 0x97 0x03 0xFD

/-- A telegram presented to the decoder gives its Command back; with a wrong checksum it gives D_CHECKSUM and the
residue, and with group code 0b11 D_DEVBYTE; nothing else changes (R67, R100). That it is presented to the decoder is
the model's reading (log entry 1). The flags `ckWritten` and `decTaken` are the model's own (log entry 9). The right
checksum as `0x94 - d`, and the residue with it, is the spec's own inference ("[derived: 256 - 0x6C = 0x94" in R92).
-/
def Obligations.TelegramsDecode : Prop :=
  ∀ (g : BitVec 2) (c : BitVec 3) (k : Byte) (s : State), NotBusy s → ∀ (i : Instr) (act : BitVec 2),
    (i = .tgmOn g c k ∧ act = 0b01) ∨ (i = .tgmOff g c k ∧ act = 0b10) →
    exec i s = .next { s with
      regs :=
        if k ≠ 0x94 - (act ++ 0#1 ++ g ++ c) then
          { s.regs with ckacc := k - (0x94 - (act ++ 0#1 ++ g ++ c)), decErr := .checksum, dcmdValid := false }
        else if g = 3 then { s.regs with ckacc := 0, decErr := .devbyte, dcmdValid := false }
        else { s.regs with
          ckacc := 0, decErr := .ok, dcmdValid := true, dgrp := g, dchan := c.setWidth 4 + 1, dact := act }
      ckWritten := true
      decTaken := true
      out := Acked s }

/-- A control byte reaching a block that is not busy stays in the port's receive queue (R137, R192). That the byte
arrives with a NOP step is the model's reading (log entry 1), and that it joins the queue in that very step its choice
(log entry 14). -/
def Obligations.ControlBytesWaitInPort : Prop :=
  ∀ s : State, NotBusy s →
    exec .inq s = .next { s with rx := s.rx ++ [0xFA], out := stateOutputs s.regs } ∧
    exec .ack s = .next { s with rx := s.rx ++ [0x05], out := stateOutputs s.regs }

/-- A control byte on the line joins the port's queue, and the step is that of NOP over the longer queue, in every
state: in AWAIT with nothing older in the port, ACK is popped and leads to XMIT and INQ fails the handshake with
UNEXPECTED, the timers keeping their values; in AWAIT behind an older byte, and in XMIT, it stays behind in the queue
and changes nothing else (R68, R130, R133, R228). That the byte arrives with a NOP step is the model's reading (log
entry 1), and that it is judged in that very step its choice (log entry 14). -/
def Obligations.ControlBytesJudgedInAwait : Prop :=
  (∀ s : State, exec .inq s = exec .nop { s with rx := s.rx ++ [0xFA] } ∧
    exec .ack s = exec .nop { s with rx := s.rx ++ [0x05] }) ∧
  (∀ s : State, s.regs.hs = .await → s.rx = [] →
    exec .ack s = .next { s with
      regs := { s.regs with hs := .xmit }
      out := { BusyOutputs false s with rxPop := true } } ∧
    exec .inq s = .next { s with
      regs := { s.regs with hs := .failed, reason := .unexpected }
      out := { BusyOutputs false s with rxPop := true } }) ∧
  (∀ (s : State) (b : Byte) (rest : List Byte), s.regs.hs = .await → s.rx = b :: rest →
    ∃ t, exec .nop s = .next t ∧ t.rx = rest ∧ exec .inq s = .next { t with rx := rest ++ [0xFA] } ∧
      exec .ack s = .next { t with rx := rest ++ [0x05] }) ∧
  (∀ s : State, s.regs.hs = .xmit →
    ∃ t, exec .nop s = .next t ∧ t.rx = s.rx ∧ exec .inq s = .next { t with rx := s.rx ++ [0xFA] } ∧
      exec .ack s = .next { t with rx := s.rx ++ [0x05] })

/-! ### The Handshake Controller -/

/-- AWAIT with a byte in the port: the oldest byte alone is popped and judged, a tick in the same step is not counted
(R129, R130). -/
def Obligations.AwaitJudgesOldestByte : Prop :=
  ∀ (s : State) (b : Byte) (rest : List Byte), s.regs.hs = .await → s.rx = b :: rest →
    exec .nop s = .next { s with
      regs := if b = 0x05 then { s.regs with hs := .xmit }
        else { s.regs with hs := .failed, reason := .unexpected }
      rx := rest
      out := { BusyOutputs false s with rxPop := true } }

/-- AWAIT with no byte and a tick: the attempt goes on, the next begins, or the deadline is reached (R131). -/
def Obligations.AwaitCountsTick : Prop :=
  ∀ s : State, s.regs.hs = .await → s.rx = [] → s.pins.tick = true →
    1 ≤ s.cfg.attemptTicks → s.cfg.attemptTicks ≤ 65535 → 1 ≤ s.cfg.maxAttempts → s.cfg.maxAttempts ≤ 65535 →
    exec .nop s = .next { s with
      regs :=
        if s.regs.attTmr.toNat + 1 < s.cfg.attemptTicks then { s.regs with attTmr := s.regs.attTmr + 1 }
        else if s.regs.attCnt.toNat + 1 < s.cfg.maxAttempts then
          { s.regs with attTmr := 0, attCnt := s.regs.attCnt + 1 }
        else { s.regs with attTmr := 0, hs := .failed, reason := .timeout }
      out := BusyOutputs false s }

/-- AWAIT with neither a byte nor a tick writes no register and pops nothing, whatever operation is presented, and
stays so for as many such steps as come, with any host operations beside them. The spec's own inference ("[derived:
from rule R129]" in R132). That the later steps' ports stand in a script is the model's arrangement (log entry 7).
That a refused operation drives `op_rej` is R121; that a presented telegram or command word counts as one is the
model's reading (log entry 1). -/
def Obligations.AwaitWaitsUnchanged : Prop :=
  (∀ (i : Instr) (s : State), i ≠ .inq → i ≠ .ack → s.regs.hs = .await → s.rx = [] → s.pins.tick = false →
    exec i s = .next { s with out := BusyOutputs (decide (i ≠ .nop)) s }) ∧
  ∀ (n : Nat) (s : State), s.regs.hs = .await → s.rx = [] → NoBytePins s.pins → s.pins.tick = false →
    (∀ p ∈ s.script, NoBytePins p ∧ p.tick = false) →
    ∃ t, runSteps n s = .next t ∧ t.regs = s.regs ∧ t.rx = [] ∧ t.tx = s.tx

/-- The write phase: the cell at `TXIDX` is offered; an error ends in FAILED with `TXIDX` kept, a ready port transfers it,
otherwise nothing is written (R134, R135). -/
def Obligations.XmitWritePhase : Prop :=
  ∀ (s : State) (b : Byte), s.regs.hs = .xmit → s.regs.txidx.toNat ≤ 11 →
    (Frame.elements s.regs.tb)[s.regs.txidx.toNat]? = some b →
    exec .nop s =
      if s.pins.txErr = true then .next { s with
        regs := { s.regs with hs := .failed, reason := .writeErr }
        out := { BusyOutputs false s with txValid := true, txData := b } }
      else if s.pins.txReady = true then .next { s with
        regs := { s.regs with txidx := s.regs.txidx + 1 }
        tx := s.tx ++ [b]
        out := { BusyOutputs false s with txValid := true, txData := b } }
      else .next { s with out := { BusyOutputs false s with txValid := true, txData := b } }

/-- The flush phase: an error ends in FAILED, the end of the flush in COMPLETE, otherwise nothing is written; `TXIDX`
stays 12 (R136). -/
def Obligations.XmitFlushPhase : Prop :=
  ∀ s : State, s.regs.hs = .xmit → s.regs.txidx = 12 →
    exec .nop s =
      if s.pins.txErr = true then .next { s with
        regs := { s.regs with hs := .failed, reason := .writeErr }
        out := { BusyOutputs false s with txFlush := true } }
      else if s.pins.flushDone = true then .next { s with
        regs := { s.regs with hs := .complete }
        out := { BusyOutputs false s with txFlush := true } }
      else .next { s with out := { BusyOutputs false s with txFlush := true } }

/-- The step function is total: under a configuration in its range every instruction has a next state in every state
(R141), and outside it only a counted tick in AWAIT stops, by a fault (V8, log entry 4). Totality is the spec's own
inference ("The function is total and deterministic" in R141, derived). R141 speaks of input vectors; that the block
takes a step on a row of the formats CTRL, TGM and DEVB at all is the model's reading (log entry 1). -/
def Obligations.EveryInstructionCompletes : Prop :=
  (∀ (i : Instr) (s : State), 1 ≤ s.cfg.attemptTicks → s.cfg.attemptTicks ≤ 65535 → 1 ≤ s.cfg.maxAttempts →
    s.cfg.maxAttempts ≤ 65535 → ∃ t, exec i s = .next t) ∧
  (∀ (i : Instr) (s : State) (r : Fault), exec i s = .fault r →
    s.regs.hs = .await ∧ s.rx = [] ∧ s.pins.tick = true) ∧
  (∀ (i : Instr) (s : State), i ≠ .inq → i ≠ .ack → s.regs.hs = .await → s.rx = [] → s.pins.tick = true →
    ¬ (1 ≤ s.cfg.attemptTicks ∧ s.cfg.attemptTicks ≤ 65535 ∧ 1 ≤ s.cfg.maxAttempts ∧ s.cfg.maxAttempts ≤ 65535) →
    exec i s = .fault .configOutOfRange) ∧
  (∀ (i : Instr) (s : State) (r : Refusal), exec i s ≠ .refused r)

/-- The outputs of every instruction and of every step with `rst` = 0, whatever word is presented (R23): those of the
state follow `HS`, the read-back shows the registers at the start of the step, `tx_data` is 0 when nothing is offered,
and at most one of `op_ack`, `op_rej` is 1 (R120). For the rows of the formats CTRL, TGM and DEVB, that the block
takes a step on them is the model's reading (log entry 1). -/
def Obligations.OutputsFollowState : Prop :=
  (∀ (i : Instr) (s t : State), exec i s = .next t → OutputsOf s t) ∧
  (∀ s t : State, s.pins.rst = false → step s = .next t → OutputsOf s t)

/-- A byte is appended to the TX stream exactly in a step that offers it to a port showing ready and no error (R47,
R128). For the rows of the formats CTRL, TGM and DEVB, that the block takes a step on them is the model's reading (log
entry 1). -/
def Obligations.TransferExactlyWhenReady : Prop :=
  ∀ (i : Instr) (s t : State), exec i s = .next t →
    t.tx = if t.out.txValid = true ∧ s.pins.txReady = true ∧ s.pins.txErr = false then s.tx ++ [t.out.txData] else s.tx

/-- At most one byte is popped in a step, only in AWAIT, and it is the oldest; otherwise the queue only grows by what
the line brings (R46, R129, R130). That a byte on the line is the model's instruction (log entry 1) and joins the
queue in the very step that presents it, so that the step may pop it, is the model's choice (log entry 14). -/
def Obligations.PopOnlyInAwait : Prop :=
  ∀ (i : Instr) (s t : State), exec i s = .next t →
    if t.out.rxPop = true then s.regs.hs = .await ∧ t.out.rdOwn = true ∧ ∃ b, s.rx ++ lineBytes i = b :: t.rx
    else t.rx = s.rx ++ lineBytes i

/-! ### Steps of the machine -/

/-- A step with `rst` = 0 runs the instruction that stands decoded at the ports; what it adds is the agents' turn,
each act listed at the ports once and in order, and the next levels on the ports, and neither touches the block (R120,
R160); a fault of the instruction is the step's. The agents' turn and the script are the model's own arrangement (log
entries 7 and 13). -/
def Obligations.StepRunsDecodedInstruction : Prop :=
  (∀ u : State, endOfStep u = { u.pins.acts.foldl (fun v a => envAct a v) u with
    pins := u.script.headD Pins.idle
    script := u.script.tail }) ∧
  ∀ (s : State) (i : Instr), s.pins.rst = false → decode s.pins.word = .ok i →
    step s = finish (exec i s) ∧
    (∀ t, exec i s = .next t → step s = .next (endOfStep t) ∧ (endOfStep t).regs = t.regs ∧
      (endOfStep t).out = t.out ∧ (endOfStep t).cfg = t.cfg ∧ (endOfStep t).pins = t.script.headD Pins.idle ∧
      (endOfStep t).script = t.script.tail) ∧
    (∀ r, exec i s = .fault r → step s = .fault r)

/-- A step with `rst` = 1 whatever is presented: the control registers at their reset values, the outputs that depend
on inputs 0 and the others those of the state before, no host read of an unwritten register with a value, the port
untouched and the other agents as their turn finds them (R26, R27, R194, R221). That a byte on the line in that step
joins the port's queue is the model's choice (log entry 14); that the ACK bytes owed stay owed is too (log entry 22).
The flags `ckWritten` and `decTaken` and the three host reads are the model's form (log entry 9) of the spec's own
inference ("a model should make such a read yield no value" in R27, derived). -/
def Obligations.ResetOverridesEverything : Prop :=
  ∀ s : State, s.pins.rst = true → ∃ u : State, step s = .next (endOfStep u) ∧
    u.regs.hs = .idle ∧ u.regs.reason = .none ∧ u.regs.txidx = 0 ∧ u.regs.attTmr = 0 ∧ u.regs.attCnt = 0 ∧
    u.regs.tbValid = false ∧ u.regs.encErr = 0 ∧ u.regs.decErr = .ok ∧ u.regs.dcmdValid = false ∧
    u.out = stateOutputs s.regs ∧ u.rx = s.rx ++ wordLineBytes s.pins.word ∧ u.tx = s.tx ∧ u.cfg = s.cfg ∧ u.pins = s.pins ∧
    u.script = s.script ∧ u.session = s.session ∧ u.display = s.display ∧ u.ackOwed = s.ackOwed ∧
    u.ckWritten = false ∧ u.decTaken = false ∧
    hostReadTb u = none ∧ hostReadCkacc u = none ∧ hostReadDecoded u = none

/-- The reset state: every register R26 defines at its value, and no value for a host that reads a register nothing
has written (R26, R27). That a read without a value yields none is the spec's own inference ("a model should make such
a read yield no value" in R27, derived) in the form of log entry 9. -/
def Obligations.ResetStateValues : Prop :=
  State.reset.regs.hs = .idle ∧ State.reset.regs.reason = .none ∧ State.reset.regs.txidx = 0 ∧
  State.reset.regs.attTmr = 0 ∧ State.reset.regs.attCnt = 0 ∧ State.reset.regs.tbValid = false ∧
  State.reset.regs.encErr = 0 ∧ State.reset.regs.decErr = .ok ∧ State.reset.regs.dcmdValid = false ∧
  hostReadTb State.reset = none ∧ hostReadCkacc State.reset = none ∧ hostReadDecoded State.reset = none

/-- The packed status word, field by field, and its reset value (R29); the codes that HS, REASON and DEC_ERR hold
(R12, R16, R18). -/
def Obligations.StatusWordLayout : Prop :=
  (∀ r : Regs, (statusWord r).getLsbD 15 = r.dcmdValid ∧ (statusWord r).getLsbD 14 = r.tbValid ∧
    (statusWord r).extractLsb' 11 3 = DecErr.code r.decErr ∧ (statusWord r).extractLsb' 8 3 = r.encErr ∧
    (statusWord r).extractLsb' 6 2 = Reason.code r.reason ∧ (statusWord r).extractLsb' 3 3 = HState.code r.hs ∧
    (statusWord r).getLsbD 2 = decide (r.hs = .complete) ∧ (statusWord r).getLsbD 1 = decide (r.hs = .failed) ∧
    (statusWord r).getLsbD 0 = decide (r.hs = .await ∨ r.hs = .xmit)) ∧
  statusWord Regs.reset = 0x0000 ∧
  (HState.code .idle = 0 ∧ HState.code .await = 1 ∧ HState.code .xmit = 2 ∧ HState.code .complete = 3 ∧
    HState.code .failed = 4) ∧
  (Reason.code .none = 0 ∧ Reason.code .timeout = 1 ∧ Reason.code .unexpected = 2 ∧ Reason.code .writeErr = 3) ∧
  (DecErr.code .ok = 0 ∧ DecErr.code .length = 1 ∧ DecErr.code .header = 2 ∧ DecErr.code .term = 3 ∧
    DecErr.code .checksum = 4 ∧ DecErr.code .payload = 5 ∧ DecErr.code .devbyte = 6)

/-- No step writes the parameter record (R20, R222). -/
def Obligations.ParametersNeverChange : Prop :=
  ∀ s t : State, step s = .next t → t.cfg = s.cfg

/-- The transitions of `HS` with `rst` = 0 and no others (R140). That there are no others is the spec's own inference
("There are no other transitions" in R140, derived). -/
def Obligations.HandshakeTransitions : Prop :=
  ∀ s t : State, s.pins.rst = false → step s = .next t →
    (s.regs.hs = .await → t.regs.hs = .await ∨ t.regs.hs = .xmit ∨ t.regs.hs = .failed) ∧
    (s.regs.hs = .xmit → t.regs.hs = .xmit ∨ t.regs.hs = .complete ∨ t.regs.hs = .failed) ∧
    (NotBusy s → t.regs.hs ≠ s.regs.hs →
      (fetch s = .ok .clr ∧ t.regs.hs = .idle) ∨
      (∃ c, fetch s = .ok (.send c) ∧ (t.regs.hs = .idle ∨ t.regs.hs = .await ∨ t.regs.hs = .failed)))

/-- XMIT is entered only from AWAIT by a step that pops the byte 0x05 (R49, Q7). That a byte on the line counts as
popped in the very step that presents it is the model's choice (log entries 1 and 14). -/
def Obligations.XmitOnlyAfterAck : Prop :=
  ∀ s t : State, step s = .next t → s.regs.hs ≠ .xmit → t.regs.hs = .xmit →
    s.regs.hs = .await ∧ t.out.rxPop = true ∧ (s.rx ++ wordLineBytes s.pins.word).head? = some 0x05

/-- No automatic retry: from a state that is not busy, a step that presents no SEND offers nothing to the port and
leaves the block not busy (R143, Q10). The spec's own inference ("[derived: from rules R135, R136 and R137]" in R143).
-/
def Obligations.NoRetryWithoutSend : Prop :=
  ∀ s t : State, NotBusy s → (∀ c, fetch s ≠ .ok (.send c)) → step s = .next t →
    t.out.txValid = false ∧ t.out.txFlush = false ∧ NotBusy t

/-- What the other agents do and what they keep off. While the block owns the write side no act of another agent
reaches the TX stream; while it owns the inbound stream none takes a byte from the port; none ever writes a register
of the block (R51, R170). The Keyboard Loop forwards and echoes its units while `wr_lock` is 0 (R167, R172), start,
stop, exit and an I/O error write `alive` (R169, R173), the loops do nothing without it, and the device's byte joins
the queue (R164). The agents' turn between two steps and the dropping of a kept-back unit are the model's arrangement
(log entry 13), the echo of a newline too (log entry 23), and the menu unit, which does nothing (log entry 15). That
the bytes owed stay owed and are withheld when `alive` falls is its choice too (log entry 22), as are that a failing
loop leaves the streams as they are (log entry 24), that a loop without `alive` neither reads nor handles a unit (log
entry 25), that a new session keeps `echo` and `newline_mode` (log entry 27), and that the echo joins the one display
list (log entry 26). -/
def Obligations.AgentsKeepOff : Prop :=
  (∀ (acts : List EnvAct) (s : State),
    (envActs acts s).regs = s.regs ∧ (Busy s → (envActs acts s).tx = s.tx) ∧
    (s.regs.hs = .await → ∃ more, (envActs acts s).rx = s.rx ++ more)) ∧
  (∀ s : State, s.session.alive = true → NotBusy s →
    (∀ b, envAct (.key (.char b)) s =
      { s with tx := s.tx ++ [b], display := if s.session.echo = true then s.display ++ [b] else s.display }) ∧
    envAct (.key .newline) s =
      { s with
        tx := s.tx ++ newlineOnWire s.session.newlineMode
        display :=
          if s.session.echo = true then s.display ++ newlineOnWire s.session.newlineMode else s.display }) ∧
  (∀ s : State, Busy s → (∀ b, envAct (.key (.char b)) s = s) ∧ envAct (.key .newline) s = s) ∧
  (∀ s : State, envAct (.key .menu) s = s ∧
    (s.session.alive = true → envAct (.key .exit) s = { s with session := { s.session with alive := false } }) ∧
    (s.session.alive = false → ∀ u, envAct (.key u) s = s ∧ envAct .readerTurn s = s)) ∧
  (∀ (s : State) (b : Byte), envAct .start s = { s with session := { s.session with alive := true } } ∧
    envAct .stop s = { s with session := { s.session with alive := false } } ∧
    envAct .ioError s = { s with session := { s.session with alive := false } } ∧
    envAct (.arrive b) s = { s with rx := s.rx ++ [b] })

/-- The Serial Reader Loop answers an inbound INQ with two ACK bytes when the write side is free, and hands any other
byte to the display path (R166); in XMIT it may pop but keeps its reply back, does nothing more while it owes one, and
in AWAIT does nothing at all; once `wr_lock` has fallen it writes the bytes it owes (R170). That a turn happens
between two steps of the block, and that a loop which owes a reply reads no further, is the model's arrangement (log
entry 13). So are that a stopped loop neither reads nor pays (log entries 22 and 25) and that what it shows joins the
one display list (log entry 26). -/
def Obligations.ReaderLoopAnswersInq : Prop :=
  (∀ (s : State) (b : Byte) (rest : List Byte), s.session.alive = true → NotBusy s → s.rx = b :: rest →
    envAct .readerTurn s =
      if b = 0xFA then
        { s with rx := rest, tx := s.tx ++ List.replicate s.ackOwed 0x05 ++ [0x05, 0x05], ackOwed := 0 }
      else
        { s with
          rx := rest, tx := s.tx ++ List.replicate s.ackOwed 0x05, display := s.display ++ [b], ackOwed := 0 }) ∧
  (∀ (s : State) (b : Byte) (rest : List Byte), s.session.alive = true → s.regs.hs = .xmit → s.ackOwed = 0 →
    s.rx = b :: rest →
    envAct .readerTurn s =
      if b = 0xFA then { s with rx := rest, ackOwed := 2 }
      else { s with rx := rest, display := s.display ++ [b] }) ∧
  (∀ s : State, Busy s → s.ackOwed ≠ 0 ∨ s.rx = [] ∨ s.regs.hs = .await ∨ s.session.alive = false →
    envAct .readerTurn s = s) ∧
  (∀ s : State, s.session.alive = true → NotBusy s → s.rx = [] →
    envAct .readerTurn s = { s with tx := s.tx ++ List.replicate s.ackOwed 0x05, ackOwed := 0 })

/-! ### Invariants and runs -/

/-- R28 and the shape of the TX stream hold in the reset state. The items of R28 are the spec's own inferences ("They
are consequences"); the model names the timers' limits (log entry 6) and the data registers (log entry 5), and no item
depends on those. Item 7 holds here because `decTaken`, the model's own flag, is false (log entry 9). -/
def Obligations.InvariantsAtReset : Prop := RegsInv State.reset ∧ StreamInv State.reset

/-- Every step keeps what R28 says of a reachable state. The spec's own inferences ("They are consequences" in R28).
`decTaken`, in which item 7 says "DEC taken since reset", is the model's own flag (log entry 9). -/
def Obligations.RegisterInvariantKept : Prop :=
  ∀ s t : State, RegsInv s → step s = .next t → RegsInv t

/-- Every step keeps the shape of the TX stream during a handshake: INQ, then the first `TXIDX` cells of the buffer
(R48, Q8). That no agent writes meanwhile is the environment of R170, which the model builds in (log entry 13). -/
def Obligations.StreamInvariantKept : Prop :=
  ∀ s t : State, RegsInv s → StreamInv s → step s = .next t → StreamInv t

/-- A silent device (R142): a SEND taken into AWAIT, then steps with any host operation and no byte. While fewer than
`ATTEMPT_TICKS * MAX_ATTEMPTS` ticks have been seen the block waits; the step that sees that tick ends it in FAILED
with TIMEOUT, where it stays if the host presents NOP. `TXIDX` is 0, and the TX stream received INQ and no telegram
byte. The spec's own inference ("[derived: from rules R122, R131 and R132]" in R142). That the ports stand in a script
is the model's arrangement (log entry 7). -/
def Obligations.SilentDeviceTimesOut : Prop :=
  ∀ (s : State) (h : HostPorts) (n : Nat), NotBusy s → s.rx = [] → s.pins.rst = false → s.pins.acts = [] →
    s.pins.word = .hop h → h.op = 3 → GoodOperands h.cmd → s.pins.txErr = false → s.pins.txReady = true →
    1 ≤ s.cfg.attemptTicks → s.cfg.attemptTicks ≤ 65535 → 1 ≤ s.cfg.maxAttempts → s.cfg.maxAttempts ≤ 65535 →
    (∀ p ∈ s.script, NoBytePins p) → n ≤ s.script.length →
    (ticksIn (s.script.take (n - 1)) < s.cfg.attemptTicks * s.cfg.maxAttempts ∨ ∀ p ∈ s.script, SilentPins p) →
    ∃ t, runSteps (n + 1) s = .next t ∧ t.tx = s.tx ++ [0xFA] ∧ t.regs.txidx = 0 ∧
      if ticksIn (s.script.take n) < s.cfg.attemptTicks * s.cfg.maxAttempts then t.regs.hs = .await
      else t.regs.hs = .failed ∧ t.regs.reason = .timeout

/-- The shortest successful SEND (R54, R236): fifteen steps put INQ and the twelve telegram bytes on the TX stream,
consume exactly the ACK, and end in COMPLETE; and from IDLE or FAILED no run of fewer steps, whatever is presented in
it, reaches COMPLETE. The step counts are the spec's own inference ("shortest successful SEND" in R236, derived). That
the ports stand in a script, and that the device's byte comes between two steps, is the model's arrangement (log
entries 7 and 13). Cell 10 as `0x94 - d` is the spec's own inference ("[derived: 256 - 0x6C = 0x94" in R92). -/
def Obligations.ShortestHandshakeCompletes : Prop :=
  (∀ (s : State) (c : Command), NotBusy s → GoodOperands c → s.rx = [] → s.pins = sendPins c →
    s.script = Pins.idle :: (List.replicate 12 readyPins ++ [flushPins]) →
    ∃ t, runSteps 15 s = .next t ∧ t.regs.hs = .complete ∧ t.regs.reason = .none ∧ t.regs.txidx = 12 ∧ t.rx = [] ∧
      t.tx = s.tx ++ [0xFA, 0x55, 0x16, 0x00, devbyte c, 0x01, 0x00, 0x00, 0x00, 0x00, 0x00, 0x94 - devbyte c, 0xAA]) ∧
  (∀ (s t : State) (k : Nat), NotBusy s → s.regs.hs ≠ .complete → k < 15 → runSteps k s = .next t →
    t.regs.hs ≠ .complete)

/-! ### Words that are no instruction -/

/-- The presented words that are no rows of the table, the reserved codes apart: another byte on the line is received
like INQ and ACK and stands before a NOP step, so that in AWAIT it fails the handshake if it is the oldest (R69,
R130); twelve bytes that are no telegram go to the decoder as a DEC of length 12 (R100); a byte presented as a command
word that is no DeviceByte is refused by name (R66). How such words are presented is the model's reading (log entry
12). So is that a byte on the line joins the queue in the very step that presents it (log entry 14). -/
def Obligations.OtherWordsAct : Prop :=
  (∀ (s : State) (b : Byte), s.pins.rst = false → s.pins.word = .ctrl b → b ≠ 0xFA → b ≠ 0x05 →
    step s = finish (exec .nop { s with rx := s.rx ++ [b] }) ∧
    (s.regs.hs = .await → s.rx = [] → step s = finish (.next { s with
      regs := { s.regs with hs := .failed, reason := .unexpected }
      out := { BusyOutputs false s with rxPop := true } })) ∧
    (NotBusy s → step s = finish (.next { s with rx := s.rx ++ [b], out := stateOutputs s.regs }))) ∧
  (∀ (s : State) (f : Frame), s.pins.rst = false → s.pins.word = .tgm f →
    (∀ g c k, f ≠ telegramFrame 0b01 g c k ∧ f ≠ telegramFrame 0b10 g c k) →
    step s = finish (exec (.dec 12 f) s)) ∧
  (∀ (s : State) (d : Byte), s.pins.rst = false → s.pins.word = .devb d → validDevbyte d = false →
    step s = .refused (.notACommandWord d))
end

