-- ==== Sys2Proof/Laws/Codec.lean ====
section
/-! SUPPORT. What the checksum and codec functions compute. -/

namespace Sys2Proof.Machine

theorem foldl_ckAdd (q : List Byte) (a : Byte) : q.foldl ckAdd a = a + sum8 q := by
  induction q generalizing a with
  | nil => simp [sum8, ckClear]
  | cons b q ih =>
    have h := ih (ckAdd ckClear b)
    simp only [sum8, List.foldl_cons] at *
    rw [ih, h]
    simp [ckAdd, ckClear, BitVec.add_assoc]

@[simp] theorem sum8_nil : sum8 [] = 0 := rfl

@[simp] theorem sum8_cons (b : Byte) (q : List Byte) : sum8 (b :: q) = b + sum8 q := by
  rw [sum8, List.foldl_cons, foldl_ckAdd]
  simp [ckAdd, ckClear]

@[simp] theorem sum8_append (p q : List Byte) : sum8 (p ++ q) = sum8 p + sum8 q := by
  induction p with
  | nil => simp
  | cons b p ih => simp [ih, BitVec.add_assoc]

theorem cksum_eq_neg (p : List Byte) : cksum p = 0 - sum8 p := rfl

/-- The nine constant bytes sum to 0x6C (R92). -/
theorem sum8_framePart (c : Command) : sum8 (framePart c) = 0x6C + devbyte c := by
  simp only [framePart, sum8_cons, sum8_nil, Config.hdr0, Config.hdr1, Config.hdr2, Config.pay0, Config.pay1,
    Config.pay2, Config.pay3, Config.pay4, Config.pay5]
  bv_omega

theorem beforeChecksum_frameOf (c : Command) : Frame.beforeChecksum (frameOf c) = framePart c := rfl

/-- The accumulator after an encode (R14, R92). -/
theorem sum8_beforeChecksum_frameOf (c : Command) : sum8 (Frame.beforeChecksum (frameOf c)) = 0x6C + devbyte c := by
  rw [beforeChecksum_frameOf, sum8_framePart]

/-- The checksum of a Command's frame (R92). -/
theorem frameOf_checksum (c : Command) : (frameOf c).b10 = 0x94 - devbyte c := by
  show cksum (framePart c) = _
  rw [cksum_eq_neg, sum8_framePart]
  bv_omega

/-- `enc_check` is 0 exactly for a valid Command (R93). -/
theorem encCheck_eq_zero_iff (c : Command) :
    encCheck c = 0 ↔ c.grp ≠ 3 ∧ c.chan ≠ 0 ∧ ¬ 9 ≤ c.chan ∧ c.act ≠ 0b00 ∧ c.act ≠ 0b11 := by
  obtain ⟨g, ch, a⟩ := c
  revert g ch a
  decide

theorem codecEncode_valid (c : Command) (h : encCheck c = 0) : codecEncode c = .frame (frameOf c) :=
  if_pos h

theorem codecEncode_invalid (c : Command) (h : encCheck c ≠ 0) : codecEncode c = .encodeError (encCheck c) :=
  if_neg h

/-- What a successful decode says: every check of R98 passed. -/
theorem codecDecode_command (len : Nat) (f : Frame) (c : Command) (h : codecDecode len f = .command c) :
    decCheck len f = .ok ∧ c = cmdOfDevbyte f.b3 := by
  unfold codecDecode at h
  split at h
  · rename_i hc
    cases h
    exact ⟨hc, rfl⟩
  · cases h

/-- What a failed decode says: its code is the first failing check (R98). -/
theorem codecDecode_error (len : Nat) (f : Frame) (e : DecErr) (h : codecDecode len f = .decodeError e) :
    decCheck len f = e ∧ e ≠ .ok := by
  unfold codecDecode at h
  split at h
  · cases h
  · rename_i hc
    cases h
    exact ⟨rfl, hc⟩

end Sys2Proof.Machine
end

