-- ==== Sys2Proof/Laws/Decode.lean ====
section
/-! SUPPORT. What the decoder can answer, format by format. -/

namespace Sys2Proof

theorem decodeHop_cases (p : HostPorts) :
    decodeHop p = .ok .nop ∨ decodeHop p = .ok (.enc p.cmd) ∨ decodeHop p = .ok (.dec p.decLen p.decFrame) ∨
    decodeHop p = .ok (.send p.cmd) ∨ decodeHop p = .ok .clr ∨ decodeHop p = .error (.reservedOp p.op) := by
  unfold decodeHop
  split <;> simp

theorem decodeCtrl_cases (b : Byte) :
    (b = Config.inq ∧ decodeCtrl b = .ok .inq) ∨ (b = Config.ack ∧ decodeCtrl b = .ok .ack) ∨
    decodeCtrl b = .error (.otherByte b) := by
  unfold decodeCtrl Config.inq Config.ack
  split
  · exact .inl ⟨by assumption, rfl⟩
  · split
    · exact .inr (.inl ⟨by assumption, rfl⟩)
    · exact .inr (.inr rfl)

theorem decodeTgm_cases (f : Frame) :
    decodeTgm f = .ok (.tgmOn (groupField f.b3) (channelField f.b3) f.b10) ∨
    decodeTgm f = .ok (.tgmOff (groupField f.b3) (channelField f.b3) f.b10) ∨
    decodeTgm f = .error (.notTelegram f) := by
  unfold decodeTgm
  split
  · exact .inl rfl
  · split
    · exact .inr (.inl rfl)
    · exact .inr (.inr rfl)

/-- No command word is a byte on the line. -/
theorem decodeDevb_line (d : Byte) :
    decodeDevb d ≠ .ok .inq ∧ decodeDevb d ≠ .ok .ack ∧ ∀ b : Byte, decodeDevb d ≠ .error (.otherByte b) := by
  unfold decodeDevb
  split <;> simp

/-- The three answers that put a byte on the line come from that byte presented on it. -/
theorem decode_line (w : Presented) : (decode w = .ok .inq → w = .ctrl Config.inq) ∧
    (decode w = .ok .ack → w = .ctrl Config.ack) ∧ (∀ b, decode w = .error (.otherByte b) → w = .ctrl b) := by
  cases w with
  | hop p =>
    simp only [decode]
    rcases decodeHop_cases p with h | h | h | h | h | h <;> simp [h]
  | ctrl b =>
    simp only [decode]
    rcases decodeCtrl_cases b with ⟨rfl, h⟩ | ⟨rfl, h⟩ | h <;> simp [h]
  | tgm f =>
    simp only [decode]
    rcases decodeTgm_cases f with h | h | h <;> simp [h]
  | devb d =>
    obtain ⟨h1, h2, h3⟩ := decodeDevb_line d
    exact ⟨fun h => absurd h h1, fun h => absurd h h2, fun b h => absurd h (h3 b)⟩

end Sys2Proof
end

