-- ==== Sys2Proof/Laws/State.lean ====
section
/-! SUPPORT. One lemma per field per named update of the registers and of the state, so that no later proof unfolds a
record update. -/

namespace Sys2Proof.Machine

@[simp] theorem enterFailed_hs (why : Reason) (r : Regs) : (enterFailed why r).hs = .failed := rfl
@[simp] theorem enterFailed_reason (why : Reason) (r : Regs) : (enterFailed why r).reason = why := rfl
@[simp] theorem enterFailed_txidx (why : Reason) (r : Regs) : (enterFailed why r).txidx = r.txidx := rfl
@[simp] theorem enterFailed_attTmr (why : Reason) (r : Regs) : (enterFailed why r).attTmr = r.attTmr := rfl
@[simp] theorem enterFailed_attCnt (why : Reason) (r : Regs) : (enterFailed why r).attCnt = r.attCnt := rfl
@[simp] theorem enterFailed_tb (why : Reason) (r : Regs) : (enterFailed why r).tb = r.tb := rfl
@[simp] theorem enterFailed_tbValid (why : Reason) (r : Regs) : (enterFailed why r).tbValid = r.tbValid := rfl
@[simp] theorem enterFailed_ckacc (why : Reason) (r : Regs) : (enterFailed why r).ckacc = r.ckacc := rfl
@[simp] theorem enterFailed_encErr (why : Reason) (r : Regs) : (enterFailed why r).encErr = r.encErr := rfl
@[simp] theorem enterFailed_decErr (why : Reason) (r : Regs) : (enterFailed why r).decErr = r.decErr := rfl
@[simp] theorem enterFailed_dcmdValid (why : Reason) (r : Regs) : (enterFailed why r).dcmdValid = r.dcmdValid := rfl
@[simp] theorem enterFailed_dgrp (why : Reason) (r : Regs) : (enterFailed why r).dgrp = r.dgrp := rfl
@[simp] theorem enterFailed_dchan (why : Reason) (r : Regs) : (enterFailed why r).dchan = r.dchan := rfl
@[simp] theorem enterFailed_dact (why : Reason) (r : Regs) : (enterFailed why r).dact = r.dact := rfl

@[simp] theorem clearInstance_hs (r : Regs) : (clearInstance r).hs = .idle := rfl
@[simp] theorem clearInstance_reason (r : Regs) : (clearInstance r).reason = .none := rfl
@[simp] theorem clearInstance_txidx (r : Regs) : (clearInstance r).txidx = 0 := rfl
@[simp] theorem clearInstance_attTmr (r : Regs) : (clearInstance r).attTmr = r.attTmr := rfl
@[simp] theorem clearInstance_attCnt (r : Regs) : (clearInstance r).attCnt = r.attCnt := rfl
@[simp] theorem clearInstance_tb (r : Regs) : (clearInstance r).tb = r.tb := rfl
@[simp] theorem clearInstance_tbValid (r : Regs) : (clearInstance r).tbValid = r.tbValid := rfl
@[simp] theorem clearInstance_ckacc (r : Regs) : (clearInstance r).ckacc = r.ckacc := rfl
@[simp] theorem clearInstance_encErr (r : Regs) : (clearInstance r).encErr = r.encErr := rfl
@[simp] theorem clearInstance_decErr (r : Regs) : (clearInstance r).decErr = r.decErr := rfl
@[simp] theorem clearInstance_dcmdValid (r : Regs) : (clearInstance r).dcmdValid = r.dcmdValid := rfl
@[simp] theorem clearInstance_dgrp (r : Regs) : (clearInstance r).dgrp = r.dgrp := rfl
@[simp] theorem clearInstance_dchan (r : Regs) : (clearInstance r).dchan = r.dchan := rfl
@[simp] theorem clearInstance_dact (r : Regs) : (clearInstance r).dact = r.dact := rfl

@[simp] theorem recordEncodeError_hs (e : BitVec 3) (r : Regs) : (recordEncodeError e r).hs = r.hs := rfl
@[simp] theorem recordEncodeError_reason (e : BitVec 3) (r : Regs) : (recordEncodeError e r).reason = r.reason := rfl
@[simp] theorem recordEncodeError_txidx (e : BitVec 3) (r : Regs) : (recordEncodeError e r).txidx = r.txidx := rfl
@[simp] theorem recordEncodeError_attTmr (e : BitVec 3) (r : Regs) : (recordEncodeError e r).attTmr = r.attTmr := rfl
@[simp] theorem recordEncodeError_attCnt (e : BitVec 3) (r : Regs) : (recordEncodeError e r).attCnt = r.attCnt := rfl
@[simp] theorem recordEncodeError_tb (e : BitVec 3) (r : Regs) : (recordEncodeError e r).tb = r.tb := rfl
@[simp] theorem recordEncodeError_tbValid (e : BitVec 3) (r : Regs) : (recordEncodeError e r).tbValid = r.tbValid := rfl
@[simp] theorem recordEncodeError_ckacc (e : BitVec 3) (r : Regs) : (recordEncodeError e r).ckacc = r.ckacc := rfl
@[simp] theorem recordEncodeError_encErr (e : BitVec 3) (r : Regs) : (recordEncodeError e r).encErr = e := rfl
@[simp] theorem recordEncodeError_decErr (e : BitVec 3) (r : Regs) : (recordEncodeError e r).decErr = r.decErr := rfl
@[simp] theorem recordEncodeError_dcmdValid (e : BitVec 3) (r : Regs) : (recordEncodeError e r).dcmdValid = r.dcmdValid := rfl
@[simp] theorem recordEncodeError_dgrp (e : BitVec 3) (r : Regs) : (recordEncodeError e r).dgrp = r.dgrp := rfl
@[simp] theorem recordEncodeError_dchan (e : BitVec 3) (r : Regs) : (recordEncodeError e r).dchan = r.dchan := rfl
@[simp] theorem recordEncodeError_dact (e : BitVec 3) (r : Regs) : (recordEncodeError e r).dact = r.dact := rfl

@[simp] theorem buildTelegram_hs (c : Command) (r : Regs) : (buildTelegram c r).hs = r.hs := rfl
@[simp] theorem buildTelegram_reason (c : Command) (r : Regs) : (buildTelegram c r).reason = r.reason := rfl
@[simp] theorem buildTelegram_txidx (c : Command) (r : Regs) : (buildTelegram c r).txidx = r.txidx := rfl
@[simp] theorem buildTelegram_attTmr (c : Command) (r : Regs) : (buildTelegram c r).attTmr = r.attTmr := rfl
@[simp] theorem buildTelegram_attCnt (c : Command) (r : Regs) : (buildTelegram c r).attCnt = r.attCnt := rfl
@[simp] theorem buildTelegram_tb (c : Command) (r : Regs) : (buildTelegram c r).tb = frameOf c := rfl
@[simp] theorem buildTelegram_tbValid (c : Command) (r : Regs) : (buildTelegram c r).tbValid = true := rfl
@[simp] theorem buildTelegram_ckacc (c : Command) (r : Regs) : (buildTelegram c r).ckacc = sum8 (Frame.beforeChecksum (frameOf c)) := rfl
@[simp] theorem buildTelegram_encErr (c : Command) (r : Regs) : (buildTelegram c r).encErr = 0 := rfl
@[simp] theorem buildTelegram_decErr (c : Command) (r : Regs) : (buildTelegram c r).decErr = r.decErr := rfl
@[simp] theorem buildTelegram_dcmdValid (c : Command) (r : Regs) : (buildTelegram c r).dcmdValid = r.dcmdValid := rfl
@[simp] theorem buildTelegram_dgrp (c : Command) (r : Regs) : (buildTelegram c r).dgrp = r.dgrp := rfl
@[simp] theorem buildTelegram_dchan (c : Command) (r : Regs) : (buildTelegram c r).dchan = r.dchan := rfl
@[simp] theorem buildTelegram_dact (c : Command) (r : Regs) : (buildTelegram c r).dact = r.dact := rfl

@[simp] theorem enterAwait_hs (r : Regs) : (enterAwait r).hs = .await := rfl
@[simp] theorem enterAwait_reason (r : Regs) : (enterAwait r).reason = .none := rfl
@[simp] theorem enterAwait_txidx (r : Regs) : (enterAwait r).txidx = 0 := rfl
@[simp] theorem enterAwait_attTmr (r : Regs) : (enterAwait r).attTmr = 0 := rfl
@[simp] theorem enterAwait_attCnt (r : Regs) : (enterAwait r).attCnt = 0 := rfl
@[simp] theorem enterAwait_tb (r : Regs) : (enterAwait r).tb = r.tb := rfl
@[simp] theorem enterAwait_tbValid (r : Regs) : (enterAwait r).tbValid = r.tbValid := rfl
@[simp] theorem enterAwait_ckacc (r : Regs) : (enterAwait r).ckacc = r.ckacc := rfl
@[simp] theorem enterAwait_encErr (r : Regs) : (enterAwait r).encErr = r.encErr := rfl
@[simp] theorem enterAwait_decErr (r : Regs) : (enterAwait r).decErr = r.decErr := rfl
@[simp] theorem enterAwait_dcmdValid (r : Regs) : (enterAwait r).dcmdValid = r.dcmdValid := rfl
@[simp] theorem enterAwait_dgrp (r : Regs) : (enterAwait r).dgrp = r.dgrp := rfl
@[simp] theorem enterAwait_dchan (r : Regs) : (enterAwait r).dchan = r.dchan := rfl
@[simp] theorem enterAwait_dact (r : Regs) : (enterAwait r).dact = r.dact := rfl

@[simp] theorem appendTx_cfg (b : Byte) (s : State) : (appendTx b s).cfg = s.cfg := rfl
@[simp] theorem appendTx_regs (b : Byte) (s : State) : (appendTx b s).regs = s.regs := rfl
@[simp] theorem appendTx_pins (b : Byte) (s : State) : (appendTx b s).pins = s.pins := rfl
@[simp] theorem appendTx_script (b : Byte) (s : State) : (appendTx b s).script = s.script := rfl
@[simp] theorem appendTx_out (b : Byte) (s : State) : (appendTx b s).out = s.out := rfl
@[simp] theorem appendTx_rx (b : Byte) (s : State) : (appendTx b s).rx = s.rx := rfl
@[simp] theorem appendTx_tx (b : Byte) (s : State) : (appendTx b s).tx = s.tx ++ [b] := rfl
@[simp] theorem appendTx_session (b : Byte) (s : State) : (appendTx b s).session = s.session := rfl
@[simp] theorem appendTx_display (b : Byte) (s : State) : (appendTx b s).display = s.display := rfl
@[simp] theorem appendTx_ackOwed (b : Byte) (s : State) : (appendTx b s).ackOwed = s.ackOwed := rfl
@[simp] theorem appendTx_ckWritten (b : Byte) (s : State) : (appendTx b s).ckWritten = s.ckWritten := rfl
@[simp] theorem appendTx_decTaken (b : Byte) (s : State) : (appendTx b s).decTaken = s.decTaken := rfl
@[simp] theorem appendTx_freeCount (b : Byte) (s : State) : (appendTx b s).freeCount = s.freeCount := rfl

@[simp] theorem receiveByte_cfg (b : Byte) (s : State) : (receiveByte b s).cfg = s.cfg := rfl
@[simp] theorem receiveByte_regs (b : Byte) (s : State) : (receiveByte b s).regs = s.regs := rfl
@[simp] theorem receiveByte_pins (b : Byte) (s : State) : (receiveByte b s).pins = s.pins := rfl
@[simp] theorem receiveByte_script (b : Byte) (s : State) : (receiveByte b s).script = s.script := rfl
@[simp] theorem receiveByte_out (b : Byte) (s : State) : (receiveByte b s).out = s.out := rfl
@[simp] theorem receiveByte_rx (b : Byte) (s : State) : (receiveByte b s).rx = s.rx ++ [b] := rfl
@[simp] theorem receiveByte_tx (b : Byte) (s : State) : (receiveByte b s).tx = s.tx := rfl
@[simp] theorem receiveByte_session (b : Byte) (s : State) : (receiveByte b s).session = s.session := rfl
@[simp] theorem receiveByte_display (b : Byte) (s : State) : (receiveByte b s).display = s.display := rfl
@[simp] theorem receiveByte_ackOwed (b : Byte) (s : State) : (receiveByte b s).ackOwed = s.ackOwed := rfl
@[simp] theorem receiveByte_ckWritten (b : Byte) (s : State) : (receiveByte b s).ckWritten = s.ckWritten := rfl
@[simp] theorem receiveByte_decTaken (b : Byte) (s : State) : (receiveByte b s).decTaken = s.decTaken := rfl
@[simp] theorem receiveByte_freeCount (b : Byte) (s : State) : (receiveByte b s).freeCount = s.freeCount := rfl

@[simp] theorem otherWrite_cfg (bytes : List Byte) (s : State) : (otherWrite bytes s).cfg = s.cfg := rfl
@[simp] theorem otherWrite_regs (bytes : List Byte) (s : State) : (otherWrite bytes s).regs = s.regs := rfl
@[simp] theorem otherWrite_pins (bytes : List Byte) (s : State) : (otherWrite bytes s).pins = s.pins := rfl
@[simp] theorem otherWrite_script (bytes : List Byte) (s : State) : (otherWrite bytes s).script = s.script := rfl
@[simp] theorem otherWrite_out (bytes : List Byte) (s : State) : (otherWrite bytes s).out = s.out := rfl
@[simp] theorem otherWrite_rx (bytes : List Byte) (s : State) : (otherWrite bytes s).rx = s.rx := rfl
@[simp] theorem otherWrite_tx (bytes : List Byte) (s : State) : (otherWrite bytes s).tx = s.tx ++ bytes := rfl
@[simp] theorem otherWrite_session (bytes : List Byte) (s : State) : (otherWrite bytes s).session = s.session := rfl
@[simp] theorem otherWrite_display (bytes : List Byte) (s : State) : (otherWrite bytes s).display = s.display := rfl
@[simp] theorem otherWrite_ackOwed (bytes : List Byte) (s : State) : (otherWrite bytes s).ackOwed = s.ackOwed := rfl
@[simp] theorem otherWrite_ckWritten (bytes : List Byte) (s : State) : (otherWrite bytes s).ckWritten = s.ckWritten := rfl
@[simp] theorem otherWrite_decTaken (bytes : List Byte) (s : State) : (otherWrite bytes s).decTaken = s.decTaken := rfl
@[simp] theorem otherWrite_freeCount (bytes : List Byte) (s : State) : (otherWrite bytes s).freeCount = s.freeCount := rfl

@[simp] theorem stateOutputs_opAck (r : Regs) : (stateOutputs r).opAck = false := rfl
@[simp] theorem stateOutputs_opRej (r : Regs) : (stateOutputs r).opRej = false := rfl
@[simp] theorem stateOutputs_txValid (r : Regs) : (stateOutputs r).txValid = false := rfl
@[simp] theorem stateOutputs_txData (r : Regs) : (stateOutputs r).txData = 0 := rfl
@[simp] theorem stateOutputs_txFlush (r : Regs) : (stateOutputs r).txFlush = false := rfl
@[simp] theorem stateOutputs_rxPop (r : Regs) : (stateOutputs r).rxPop = false := rfl
@[simp] theorem stateOutputs_wrLock (r : Regs) : (stateOutputs r).wrLock = HState.isBusy r.hs := rfl
@[simp] theorem stateOutputs_rdOwn (r : Regs) : (stateOutputs r).rdOwn = (r.hs == .await) := rfl
@[simp] theorem stateOutputs_busy (r : Regs) : (stateOutputs r).busy = HState.isBusy r.hs := rfl
@[simp] theorem stateOutputs_done (r : Regs) : (stateOutputs r).done = (r.hs == .complete) := rfl
@[simp] theorem stateOutputs_failed (r : Regs) : (stateOutputs r).failed = (r.hs == .failed) := rfl
@[simp] theorem stateOutputs_readBack (r : Regs) : (stateOutputs r).readBack = r := rfl

@[simp] theorem decodeInto_hs (len : Nat) (f : Frame) (r : Regs) : (decodeInto len f r).hs = r.hs := by
  unfold decodeInto; cases codecDecode len f <;> rfl
@[simp] theorem decodeInto_reason (len : Nat) (f : Frame) (r : Regs) : (decodeInto len f r).reason = r.reason := by
  unfold decodeInto; cases codecDecode len f <;> rfl
@[simp] theorem decodeInto_txidx (len : Nat) (f : Frame) (r : Regs) : (decodeInto len f r).txidx = r.txidx := by
  unfold decodeInto; cases codecDecode len f <;> rfl
@[simp] theorem decodeInto_attTmr (len : Nat) (f : Frame) (r : Regs) : (decodeInto len f r).attTmr = r.attTmr := by
  unfold decodeInto; cases codecDecode len f <;> rfl
@[simp] theorem decodeInto_attCnt (len : Nat) (f : Frame) (r : Regs) : (decodeInto len f r).attCnt = r.attCnt := by
  unfold decodeInto; cases codecDecode len f <;> rfl
@[simp] theorem decodeInto_tb (len : Nat) (f : Frame) (r : Regs) : (decodeInto len f r).tb = r.tb := by
  unfold decodeInto; cases codecDecode len f <;> rfl
@[simp] theorem decodeInto_tbValid (len : Nat) (f : Frame) (r : Regs) : (decodeInto len f r).tbValid = r.tbValid := by
  unfold decodeInto; cases codecDecode len f <;> rfl
@[simp] theorem decodeInto_encErr (len : Nat) (f : Frame) (r : Regs) : (decodeInto len f r).encErr = r.encErr := by
  unfold decodeInto; cases codecDecode len f <;> rfl

@[simp] theorem resetRegs_hs (n : Nat) : (resetRegs n).hs = .idle := rfl
@[simp] theorem resetRegs_reason (n : Nat) : (resetRegs n).reason = .none := rfl
@[simp] theorem resetRegs_txidx (n : Nat) : (resetRegs n).txidx = 0 := rfl
@[simp] theorem resetRegs_attTmr (n : Nat) : (resetRegs n).attTmr = 0 := rfl
@[simp] theorem resetRegs_attCnt (n : Nat) : (resetRegs n).attCnt = 0 := rfl
@[simp] theorem resetRegs_tbValid (n : Nat) : (resetRegs n).tbValid = false := rfl
@[simp] theorem resetRegs_encErr (n : Nat) : (resetRegs n).encErr = 0 := rfl
@[simp] theorem resetRegs_decErr (n : Nat) : (resetRegs n).decErr = .ok := rfl
@[simp] theorem resetRegs_dcmdValid (n : Nat) : (resetRegs n).dcmdValid = false := rfl

@[simp] theorem isBusy_idle : HState.isBusy .idle = false := rfl
@[simp] theorem isBusy_await : HState.isBusy .await = true := rfl
@[simp] theorem isBusy_xmit : HState.isBusy .xmit = true := rfl
@[simp] theorem isBusy_complete : HState.isBusy .complete = false := rfl
@[simp] theorem isBusy_failed : HState.isBusy .failed = false := rfl

end Sys2Proof.Machine
end

