-- ==== Sys2Proof/Laws/Environment.lean ====
section
/-! SUPPORT. What the agents around the block can and cannot do between two steps. -/

namespace Sys2Proof.Machine

/-- What an act of an agent leaves alone: the block, its ports and the record of its outputs. -/
structure BlockUntouched (s t : State) : Prop where
  cfg : t.cfg = s.cfg
  regs : t.regs = s.regs
  pins : t.pins = s.pins
  script : t.script = s.script
  out : t.out = s.out
  ckWritten : t.ckWritten = s.ckWritten
  decTaken : t.decTaken = s.decTaken
  freeCount : t.freeCount = s.freeCount

theorem BlockUntouched.trans {s t u : State} (h : BlockUntouched s t) (k : BlockUntouched t u) : BlockUntouched s u :=
  ⟨k.cfg.trans h.cfg, k.regs.trans h.regs, k.pins.trans h.pins, k.script.trans h.script, k.out.trans h.out,
    k.ckWritten.trans h.ckWritten, k.decTaken.trans h.decTaken, k.freeCount.trans h.freeCount⟩

theorem BlockUntouched.rfl {s : State} : BlockUntouched s s := ⟨Eq.refl _, Eq.refl _, Eq.refl _, Eq.refl _, Eq.refl _,
  Eq.refl _, Eq.refl _, Eq.refl _⟩

theorem echoLocal_untouched (bytes : List Byte) (s : State) : BlockUntouched s (echoLocal bytes s) := by
  unfold echoLocal; split <;> constructor <;> simp

theorem readerReply_untouched (s : State) : BlockUntouched s (readerReply s) := by
  unfold readerReply; split <;> constructor <;> simp

theorem readerJudge_untouched (b : Byte) (s : State) : BlockUntouched s (readerJudge b s) := by
  unfold readerJudge; split <;> constructor <;> simp

theorem readerRead_untouched (s : State) : BlockUntouched s (readerRead s) := by
  unfold readerRead
  split
  · exact .rfl
  · split
    · exact .rfl
    · exact BlockUntouched.trans (by constructor <;> simp) (readerJudge_untouched _ _)

theorem readerTurn_untouched (s : State) : BlockUntouched s (readerTurn s) :=
  ((readerReply_untouched s).trans (readerRead_untouched _)).trans (readerReply_untouched _)

theorem forwardKeys_untouched (bytes : List Byte) (s : State) : BlockUntouched s (forwardKeys bytes s) := by
  unfold forwardKeys
  split
  · exact .rfl
  · exact BlockUntouched.trans (by constructor <;> simp) (echoLocal_untouched _ _)

theorem keyTurn_untouched (u : KeyUnit) (s : State) : BlockUntouched s (keyTurn u s) := by
  cases u with
  | exit => constructor <;> simp [keyTurn]
  | menu => exact .rfl
  | newline => exact forwardKeys_untouched _ _
  | char b => exact forwardKeys_untouched _ _

/-- No agent writes a register of the block or a level on its ports (R160). -/
theorem envAct_untouched (a : EnvAct) (s : State) : BlockUntouched s (envAct a s) := by
  cases a with
  | arrive b => constructor <;> simp [envAct]
  | readerTurn => simp only [envAct]; split <;> first | exact readerTurn_untouched s | exact .rfl
  | key u => simp only [envAct]; split <;> first | exact keyTurn_untouched u s | exact .rfl
  | start => constructor <;> simp [envAct]
  | stop => constructor <;> simp [envAct]
  | ioError => constructor <;> simp [envAct]

theorem envActs_untouched (l : List EnvAct) (s : State) : BlockUntouched s (envActs l s) := by
  induction l generalizing s with
  | nil => exact .rfl
  | cons a l ih => exact (envAct_untouched a s).trans (ih _)

@[simp] theorem envActs_nil (s : State) : envActs [] s = s := rfl

theorem nextPins_regs (s : State) : (nextPins s).regs = s.regs := by unfold nextPins; split <;> simp
theorem nextPins_cfg (s : State) : (nextPins s).cfg = s.cfg := by unfold nextPins; split <;> simp
theorem nextPins_out (s : State) : (nextPins s).out = s.out := by unfold nextPins; split <;> simp
theorem nextPins_tx (s : State) : (nextPins s).tx = s.tx := by unfold nextPins; split <;> simp
theorem nextPins_rx (s : State) : (nextPins s).rx = s.rx := by unfold nextPins; split <;> simp
theorem nextPins_decTaken (s : State) : (nextPins s).decTaken = s.decTaken := by unfold nextPins; split <;> simp

@[simp] theorem endOfStep_regs (s : State) : (endOfStep s).regs = s.regs :=
  (nextPins_regs _).trans (envActs_untouched _ s).regs
@[simp] theorem endOfStep_cfg (s : State) : (endOfStep s).cfg = s.cfg :=
  (nextPins_cfg _).trans (envActs_untouched _ s).cfg
@[simp] theorem endOfStep_out (s : State) : (endOfStep s).out = s.out :=
  (nextPins_out _).trans (envActs_untouched _ s).out
@[simp] theorem endOfStep_decTaken (s : State) : (endOfStep s).decTaken = s.decTaken :=
  (nextPins_decTaken _).trans (envActs_untouched _ s).decTaken

end Sys2Proof.Machine
end

