-- ==== Sys2Proof/Laws/PerInstr.lean ====
section
/-! SUPPORT. Families of statements made per instruction. -/

namespace Sys2Proof.Laws.WordFormat

/-- The format spec/opcode_table.json gives the instruction's row (R74). -/
def tableFormat : Instr → Format
  | .nop => .hop
  | .enc _ => .hop
  | .dec _ _ => .hop
  | .send _ => .hop
  | .clr => .hop
  | .inq => .ctrl
  | .ack => .ctrl
  | .tgmOn _ _ _ => .tgm
  | .tgmOff _ _ _ => .tgm
  | .a1on => .devb
  | .a2on => .devb
  | .a3on => .devb
  | .a4on => .devb
  | .a5on => .devb
  | .a6on => .devb
  | .a7on => .devb
  | .a8on => .devb
  | .a1off => .devb
  | .a2off => .devb
  | .a3off => .devb
  | .a4off => .devb
  | .a5off => .devb
  | .a6off => .devb
  | .a7off => .devb
  | .a8off => .devb
  | .b1on => .devb
  | .b2on => .devb
  | .b3on => .devb
  | .b4on => .devb
  | .b5on => .devb
  | .b6on => .devb
  | .b7on => .devb
  | .b8on => .devb
  | .b1off => .devb
  | .b2off => .devb
  | .b3off => .devb
  | .b4off => .devb
  | .b5off => .devb
  | .b6off => .devb
  | .b7off => .devb
  | .b8off => .devb
  | .c1on => .devb
  | .c2on => .devb
  | .c3on => .devb
  | .c4on => .devb
  | .c5on => .devb
  | .c6on => .devb
  | .c7on => .devb
  | .c8on => .devb
  | .c1off => .devb
  | .c2off => .devb
  | .c3off => .devb
  | .c4off => .devb
  | .c5off => .devb
  | .c6off => .devb
  | .c7off => .devb
  | .c8off => .devb

/-- The encoder presents an instruction in the format of its row. -/
def Statement (i : Instr) : Prop := (encode i).format = tableFormat i

theorem nop : Statement .nop := rfl
theorem enc (c : Command) : Statement (.enc c) := rfl
theorem dec (len : BitVec Config.decLenW) (f : Frame) : Statement (.dec len f) := rfl
theorem send (c : Command) : Statement (.send c) := rfl
theorem clr : Statement .clr := rfl
theorem inq : Statement .inq := rfl
theorem ack : Statement .ack := rfl
theorem tgmOn (g : BitVec 2) (c : BitVec 3) (k : Byte) : Statement (.tgmOn g c k) := rfl
theorem tgmOff (g : BitVec 2) (c : BitVec 3) (k : Byte) : Statement (.tgmOff g c k) := rfl
theorem a1on : Statement .a1on := rfl
theorem a2on : Statement .a2on := rfl
theorem a3on : Statement .a3on := rfl
theorem a4on : Statement .a4on := rfl
theorem a5on : Statement .a5on := rfl
theorem a6on : Statement .a6on := rfl
theorem a7on : Statement .a7on := rfl
theorem a8on : Statement .a8on := rfl
theorem a1off : Statement .a1off := rfl
theorem a2off : Statement .a2off := rfl
theorem a3off : Statement .a3off := rfl
theorem a4off : Statement .a4off := rfl
theorem a5off : Statement .a5off := rfl
theorem a6off : Statement .a6off := rfl
theorem a7off : Statement .a7off := rfl
theorem a8off : Statement .a8off := rfl
theorem b1on : Statement .b1on := rfl
theorem b2on : Statement .b2on := rfl
theorem b3on : Statement .b3on := rfl
theorem b4on : Statement .b4on := rfl
theorem b5on : Statement .b5on := rfl
theorem b6on : Statement .b6on := rfl
theorem b7on : Statement .b7on := rfl
theorem b8on : Statement .b8on := rfl
theorem b1off : Statement .b1off := rfl
theorem b2off : Statement .b2off := rfl
theorem b3off : Statement .b3off := rfl
theorem b4off : Statement .b4off := rfl
theorem b5off : Statement .b5off := rfl
theorem b6off : Statement .b6off := rfl
theorem b7off : Statement .b7off := rfl
theorem b8off : Statement .b8off := rfl
theorem c1on : Statement .c1on := rfl
theorem c2on : Statement .c2on := rfl
theorem c3on : Statement .c3on := rfl
theorem c4on : Statement .c4on := rfl
theorem c5on : Statement .c5on := rfl
theorem c6on : Statement .c6on := rfl
theorem c7on : Statement .c7on := rfl
theorem c8on : Statement .c8on := rfl
theorem c1off : Statement .c1off := rfl
theorem c2off : Statement .c2off := rfl
theorem c3off : Statement .c3off := rfl
theorem c4off : Statement .c4off := rfl
theorem c5off : Statement .c5off := rfl
theorem c6off : Statement .c6off := rfl
theorem c7off : Statement .c7off := rfl
theorem c8off : Statement .c8off := rfl

end Sys2Proof.Laws.WordFormat
end

