-- ==== Sys2Proof/Laws/Runs.lean ====
section
/-! SUPPORT. A run step by step, and what the agents' turn is when none of them acts. -/

namespace Sys2Proof.Machine

@[simp] theorem runSteps_zero (s : State) : runSteps 0 s = .next s := rfl

theorem runSteps_succ (k : Nat) (s t : State) (h : step s = .next t) : runSteps (k + 1) s = runSteps k t := by
  simp only [runSteps, Host.Core.run, h]

/-- With no act between two steps only the input ports and the script change. -/
theorem endOfStep_noActs (s : State) (h : s.pins.acts = []) :
    endOfStep s = { s with pins := s.script.headD Pins.idle, script := s.script.tail } := by
  unfold endOfStep nextPins
  rw [h]
  simp only [envActs]
  cases s with
  | mk _ _ _ script => cases script <;> rfl

/-- A step as the silent environment presents it runs the state machine with no operation beside it (R139). -/
theorem step_silent (s : State) (h : SilentPins s.pins) :
    step s = finish (hostStep false quietStep s) := by
  obtain ⟨h1, -, hp, h3, h4⟩ := h
  simp only [step, fetch, h1, h3, decode, decodeHop, h4]
  rfl

end Sys2Proof.Machine
end

