-- ==== Sys2Proof/Laws/Steps.lean ====
section
/-! SUPPORT. What each shared operation can do, said once. -/

namespace Sys2Proof.Machine

/-- A step of the host side is the state machine's step while busy and the operation otherwise (R120). -/
theorem hostStep_cases (rej : Bool) (act : State → Result) (s : State) :
    (s.regs.hs = .await ∧ hostStep rej act s = awaitStep rej s) ∨
    (s.regs.hs = .xmit ∧ hostStep rej act s = xmitStep rej s) ∨
    (HState.isBusy s.regs.hs = false ∧ hostStep rej act s = act s) := by
  unfold hostStep
  cases h : s.regs.hs <;> simp

theorem hostStep_notBusy (rej : Bool) (act : State → Result) (s : State) (h : HState.isBusy s.regs.hs = false) :
    hostStep rej act s = act s := by
  unfold hostStep
  cases hs : s.regs.hs <;> simp [hs] at h ⊢

/-- Everything a step in AWAIT can do (R129 to R132). -/
theorem awaitStep_cases (rej : Bool) (s : State) :
    (∃ b rest, s.rx = b :: rest ∧ awaitStep rej s = .next { s with
        regs := judgeReply b s.regs
        rx := rest
        out := { stateOutputs s.regs with opRej := rej, rxPop := true } }) ∨
    (s.rx = [] ∧ s.pins.tick = true ∧ paramsValid s.cfg = true ∧ awaitStep rej s = .next { s with
        regs := tickRegs s.cfg s.regs
        out := { stateOutputs s.regs with opRej := rej } }) ∨
    (s.rx = [] ∧ s.pins.tick = true ∧ paramsValid s.cfg = false ∧ awaitStep rej s = .fault .configOutOfRange) ∨
    (s.rx = [] ∧ s.pins.tick = false ∧ awaitStep rej s = .next { s with
        out := { stateOutputs s.regs with opRej := rej } }) := by
  unfold awaitStep
  cases hrx : s.rx with
  | cons b rest => simp
  | nil => cases ht : s.pins.tick <;> cases hp : paramsValid s.cfg <;> simp

/-- Everything a step in XMIT can do (R133 to R136). -/
theorem xmitStep_cases (rej : Bool) (s : State) :
    (s.regs.txidx.toNat ≤ 11 ∧ s.pins.txErr = true ∧ xmitStep rej s = .next { s with
        regs := enterFailed .writeErr s.regs
        out := { stateOutputs s.regs with opRej := rej, txValid := true, txData := tbCell s.regs.tb s.regs.txidx } }) ∨
    (s.regs.txidx.toNat ≤ 11 ∧ s.pins.txErr = false ∧ s.pins.txReady = true ∧ xmitStep rej s = .next { s with
        regs := { s.regs with txidx := s.regs.txidx + 1 }
        tx := s.tx ++ [tbCell s.regs.tb s.regs.txidx]
        out := { stateOutputs s.regs with opRej := rej, txValid := true, txData := tbCell s.regs.tb s.regs.txidx } }) ∨
    (s.regs.txidx.toNat ≤ 11 ∧ s.pins.txErr = false ∧ s.pins.txReady = false ∧ xmitStep rej s = .next { s with
        out := { stateOutputs s.regs with opRej := rej, txValid := true, txData := tbCell s.regs.tb s.regs.txidx } }) ∨
    (11 < s.regs.txidx.toNat ∧ s.pins.txErr = true ∧ xmitStep rej s = .next { s with
        regs := enterFailed .writeErr s.regs
        out := { stateOutputs s.regs with opRej := rej, txFlush := true } }) ∨
    (11 < s.regs.txidx.toNat ∧ s.pins.txErr = false ∧ s.pins.flushDone = true ∧ xmitStep rej s = .next { s with
        regs := { s.regs with hs := .complete }
        out := { stateOutputs s.regs with opRej := rej, txFlush := true } }) ∨
    (11 < s.regs.txidx.toNat ∧ s.pins.txErr = false ∧ s.pins.flushDone = false ∧ xmitStep rej s = .next { s with
        out := { stateOutputs s.regs with opRej := rej, txFlush := true } }) := by
  unfold xmitStep writePhase flushPhase txAnswer flushAnswer appendTx
  by_cases h : s.regs.txidx.toNat ≤ 11
  · cases s.pins.txErr <;> cases s.pins.txReady <;> simp [h]
  · have h' : 11 < s.regs.txidx.toNat := by omega
    cases s.pins.txErr <;> cases s.pins.flushDone <;> simp [h, h']

/-- Everything a taken ENC can do (R96). -/
theorem takeEnc_cases (c : Command) (s : State) :
    (encCheck c = 0 ∧ takeEnc c s = .next { s with
        regs := buildTelegram c s.regs
        ckWritten := true
        out := { stateOutputs s.regs with opAck := true } }) ∨
    (encCheck c ≠ 0 ∧ takeEnc c s = .next { s with
        regs := recordEncodeError (encCheck c) s.regs
        out := { stateOutputs s.regs with opAck := true } }) := by
  by_cases h : encCheck c = 0
  · exact .inl ⟨h, by simp only [takeEnc, codecEncode_valid c h]⟩
  · exact .inr ⟨h, by simp only [takeEnc, codecEncode_invalid c h]⟩

/-- Everything an evaluated SEND can do (R122 to R124). -/
theorem evalSend_cases (c : Command) (s : State) :
    (encCheck c ≠ 0 ∧ evalSend c s = .next { s with
        regs := clearInstance (recordEncodeError (encCheck c) s.regs)
        out := { stateOutputs s.regs with opAck := true } }) ∨
    (encCheck c = 0 ∧ s.pins.txErr = true ∧ evalSend c s = .next { s with
        regs := enterFailed .writeErr { buildTelegram c s.regs with txidx := 0 }
        ckWritten := true
        out := { stateOutputs s.regs with txValid := true, txData := Config.inq, opAck := true } }) ∨
    (encCheck c = 0 ∧ s.pins.txErr = false ∧ s.pins.txReady = true ∧ evalSend c s = .next { s with
        regs := enterAwait (buildTelegram c s.regs)
        tx := s.tx ++ [Config.inq]
        ckWritten := true
        out := { stateOutputs s.regs with txValid := true, txData := Config.inq, opAck := true } }) ∨
    (encCheck c = 0 ∧ s.pins.txErr = false ∧ s.pins.txReady = false ∧ evalSend c s = .next { s with
        out := { stateOutputs s.regs with txValid := true, txData := Config.inq } }) := by
  by_cases h : encCheck c = 0
  · refine .inr ?_
    simp only [evalSend, codecEncode_valid c h, offerInq, txAnswer, appendTx]
    cases s.pins.txErr
    · cases s.pins.txReady
      · exact .inr (.inr ⟨h, rfl, rfl, rfl⟩)
      · exact .inr (.inl ⟨h, rfl, rfl, rfl⟩)
    · exact .inl ⟨h, rfl, rfl⟩
  · exact .inl ⟨h, by simp only [evalSend, codecEncode_invalid c h]⟩

/-- Everything the registers can become by a taken DEC (R100). -/
theorem decodeInto_cases (len : Nat) (f : Frame) (r : Regs) :
    (decCheck len f = .ok ∧ decodeInto len f r = { r with
        ckacc := if len = Config.frameLen then sum8 (Frame.beforeTerminator f) else r.ckacc
        decErr := .ok
        dcmdValid := true
        dgrp := (cmdOfDevbyte f.b3).grp
        dchan := (cmdOfDevbyte f.b3).chan
        dact := (cmdOfDevbyte f.b3).act }) ∨
    (decCheck len f ≠ .ok ∧ decodeInto len f r = { r with
        ckacc := if len = Config.frameLen then sum8 (Frame.beforeTerminator f) else r.ckacc
        decErr := decCheck len f
        dcmdValid := false }) := by
  unfold decodeInto codecDecode
  by_cases h : decCheck len f = .ok <;> simp [h]

/-- Everything a counted tick can do to the registers (R131). -/
theorem tickRegs_cases (p : Params) (r : Regs) :
    (r.attTmr.toNat + 1 < p.attemptTicks ∧ tickRegs p r = { r with attTmr := r.attTmr + 1 }) ∨
    (¬ r.attTmr.toNat + 1 < p.attemptTicks ∧ r.attCnt.toNat + 1 < p.maxAttempts ∧
      tickRegs p r = { r with attTmr := 0, attCnt := r.attCnt + 1 }) ∨
    (¬ r.attTmr.toNat + 1 < p.attemptTicks ∧ ¬ r.attCnt.toNat + 1 < p.maxAttempts ∧
      tickRegs p r = enterFailed .timeout { r with attTmr := 0 }) := by
  unfold tickRegs
  by_cases h : r.attTmr.toNat + 1 < p.attemptTicks
  · simp [h]
  · by_cases h' : r.attCnt.toNat + 1 < p.maxAttempts <;> simp [h, h']

/-- The kind of step each instruction makes: every meaning is one of these. -/
theorem exec_cases (i : Instr) (s : State) :
    (i = .nop ∧ exec i s = hostStep false quietStep s) ∨
    (i = .inq ∧ exec i s = hostStep false quietStep (receiveByte Config.inq s)) ∨
    (i = .ack ∧ exec i s = hostStep false quietStep (receiveByte Config.ack s)) ∨
    (i ≠ .nop ∧ i ≠ .inq ∧ i ≠ .ack ∧
      ((∃ c, exec i s = hostStep true (takeEnc c) s) ∨
       (∃ len f, exec i s = hostStep true (takeDec len f) s) ∨
       (∃ c, i = .send c ∧ exec i s = hostStep true (evalSend c) s) ∨
       (i = .clr ∧ exec i s = hostStep true takeClr s))) := by
  cases i
  case nop => exact .inl ⟨rfl, rfl⟩
  case inq => exact .inr (.inl ⟨rfl, rfl⟩)
  case ack => exact .inr (.inr (.inl ⟨rfl, rfl⟩))
  all_goals refine .inr (.inr (.inr ⟨nofun, nofun, nofun, ?_⟩))
  case dec len f => exact .inr (.inl ⟨len, f, rfl⟩)
  case tgmOn g c k => exact .inr (.inl ⟨12, _, rfl⟩)
  case tgmOff g c k => exact .inr (.inl ⟨12, _, rfl⟩)
  case send c => exact .inr (.inr (.inl ⟨c, rfl, rfl⟩))
  case clr => exact .inr (.inr (.inr ⟨rfl, rfl⟩))
  all_goals exact .inl ⟨_, rfl⟩

/-- A byte on the line to a block that is not busy joins the port's queue and nothing else happens (R137). -/
theorem hostStep_receive_notBusy (b : Byte) (s : State) (h : HState.isBusy s.regs.hs = false) :
    hostStep false quietStep (receiveByte b s) =
      .next { s with rx := s.rx ++ [b], out := stateOutputs s.regs } :=
  hostStep_notBusy false quietStep (receiveByte b s) h

/-- The kind of step a presented word that is no instruction makes. -/
theorem execRejected_cases (r : Reject) (s : State) :
    (∃ op, r = .reservedOp op ∧ execRejected r s = hostStep true refuseOp s) ∨
    (∃ b, r = .otherByte b ∧ execRejected r s = hostStep false quietStep (receiveByte b s)) ∨
    (∃ f, r = .notTelegram f ∧ execRejected r s = hostStep true (takeDec 12 f) s) ∨
    (∃ d, r = .notDeviceByte d ∧ execRejected r s = .refused (.notACommandWord d)) := by
  cases r with
  | reservedOp op => exact .inl ⟨op, rfl, rfl⟩
  | otherByte b => exact .inr (.inl ⟨b, rfl, rfl⟩)
  | notTelegram f => exact .inr (.inr (.inl ⟨f, rfl, rfl⟩))
  | notDeviceByte d => exact .inr (.inr (.inr ⟨d, rfl, rfl⟩))

/-- The line reaches only the port's receive queue. -/
theorem lineArrival_cases (s : State) :
    (∃ b, s.pins.word = .ctrl b ∧ lineArrival s = receiveByte b s) ∨
    ((∀ b, s.pins.word ≠ .ctrl b) ∧ lineArrival s = s) := by
  unfold lineArrival
  cases s.pins.word <;> simp

@[simp] theorem lineArrival_regs (s : State) : (lineArrival s).regs = s.regs := by
  rcases lineArrival_cases s with ⟨b, -, h⟩ | ⟨-, h⟩ <;> simp [h]
@[simp] theorem lineArrival_cfg (s : State) : (lineArrival s).cfg = s.cfg := by
  rcases lineArrival_cases s with ⟨b, -, h⟩ | ⟨-, h⟩ <;> simp [h]
@[simp] theorem lineArrival_pins (s : State) : (lineArrival s).pins = s.pins := by
  rcases lineArrival_cases s with ⟨b, -, h⟩ | ⟨-, h⟩ <;> simp [h]
@[simp] theorem lineArrival_script (s : State) : (lineArrival s).script = s.script := by
  rcases lineArrival_cases s with ⟨b, -, h⟩ | ⟨-, h⟩ <;> simp [h]
@[simp] theorem lineArrival_tx (s : State) : (lineArrival s).tx = s.tx := by
  rcases lineArrival_cases s with ⟨b, -, h⟩ | ⟨-, h⟩ <;> simp [h]
@[simp] theorem lineArrival_freeCount (s : State) : (lineArrival s).freeCount = s.freeCount := by
  rcases lineArrival_cases s with ⟨b, -, h⟩ | ⟨-, h⟩ <;> simp [h]
@[simp] theorem lineArrival_session (s : State) : (lineArrival s).session = s.session := by
  rcases lineArrival_cases s with ⟨b, -, h⟩ | ⟨-, h⟩ <;> simp [h]
@[simp] theorem lineArrival_display (s : State) : (lineArrival s).display = s.display := by
  rcases lineArrival_cases s with ⟨b, -, h⟩ | ⟨-, h⟩ <;> simp [h]
@[simp] theorem lineArrival_ackOwed (s : State) : (lineArrival s).ackOwed = s.ackOwed := by
  rcases lineArrival_cases s with ⟨b, -, h⟩ | ⟨-, h⟩ <;> simp [h]

/-- What a step that has a next state has done: the reset step, an instruction or a rejected word, then the agents' turn. -/
theorem step_cases (s t : State) (h : step s = .next t) :
    ∃ u, t = endOfStep u ∧
      ((s.pins.rst = true ∧ resetStep (lineArrival s) = .next u) ∨
       (s.pins.rst = false ∧ ∃ i, fetch s = .ok i ∧ exec i s = .next u) ∨
       (s.pins.rst = false ∧ ∃ r, fetch s = .error r ∧ execRejected r s = .next u)) := by
  unfold step at h
  split at h
  · rename_i hr
    exact ⟨_, (by simpa [finish, resetStep] using h.symm), .inl ⟨hr, rfl⟩⟩
  · rename_i hr
    have hr' : s.pins.rst = false := by simpa using hr
    split at h
    · rename_i i hi
      cases he : exec i s with
      | next u => exact ⟨u, (by simpa [finish, he] using h.symm), .inr (.inl ⟨hr', i, hi, he⟩)⟩
      | fault r => simp [finish, he] at h
      | refused r => simp [finish, he] at h
    · rename_i r hi
      cases he : execRejected r s with
      | next u => exact ⟨u, (by simpa [finish, he] using h.symm), .inr (.inr ⟨hr', r, hi, he⟩)⟩
      | fault r => simp [finish, he] at h
      | refused r => simp [finish, he] at h

/-- How a byte popped in AWAIT is judged (R130). -/
theorem judgeReply_cases (b : Byte) (r : Regs) :
    (b = Config.ack ∧ judgeReply b r = { r with hs := .xmit }) ∨
    (b ≠ Config.ack ∧ judgeReply b r = enterFailed .unexpected r) := by
  unfold judgeReply
  by_cases h : b = Config.ack <;> simp [h]

/-- A property of every state that a host step can lead to, from the nine ways a busy step ends and from the operation. -/
theorem hostStep_rule (P : State → Prop) (rej : Bool) (act : State → Result) (s t : State)
    (h : hostStep rej act s = .next t)
    (byte : s.regs.hs = .await → ∀ b rest, s.rx = b :: rest → P { s with
      regs := judgeReply b s.regs
      rx := rest
      out := { stateOutputs s.regs with opRej := rej, rxPop := true } })
    (tick : s.regs.hs = .await → s.rx = [] → s.pins.tick = true → paramsValid s.cfg = true → P { s with
      regs := tickRegs s.cfg s.regs
      out := { stateOutputs s.regs with opRej := rej } })
    (wait : s.regs.hs = .await → s.rx = [] → s.pins.tick = false → P { s with
      out := { stateOutputs s.regs with opRej := rej } })
    (writeErr : s.regs.hs = .xmit → s.regs.txidx.toNat ≤ 11 → s.pins.txErr = true → P { s with
      regs := enterFailed .writeErr s.regs
      out := { stateOutputs s.regs with opRej := rej, txValid := true, txData := tbCell s.regs.tb s.regs.txidx } })
    (write : s.regs.hs = .xmit → s.regs.txidx.toNat ≤ 11 → s.pins.txErr = false → s.pins.txReady = true → P { s with
      regs := { s.regs with txidx := s.regs.txidx + 1 }
      tx := s.tx ++ [tbCell s.regs.tb s.regs.txidx]
      out := { stateOutputs s.regs with opRej := rej, txValid := true, txData := tbCell s.regs.tb s.regs.txidx } })
    (stall : s.regs.hs = .xmit → s.regs.txidx.toNat ≤ 11 → s.pins.txErr = false → s.pins.txReady = false → P { s with
      out := { stateOutputs s.regs with opRej := rej, txValid := true, txData := tbCell s.regs.tb s.regs.txidx } })
    (flushErr : s.regs.hs = .xmit → 11 < s.regs.txidx.toNat → s.pins.txErr = true → P { s with
      regs := enterFailed .writeErr s.regs
      out := { stateOutputs s.regs with opRej := rej, txFlush := true } })
    (flushed : s.regs.hs = .xmit → 11 < s.regs.txidx.toNat → s.pins.txErr = false → s.pins.flushDone = true → P { s with
      regs := { s.regs with hs := .complete }
      out := { stateOutputs s.regs with opRej := rej, txFlush := true } })
    (flushing : s.regs.hs = .xmit → 11 < s.regs.txidx.toNat → s.pins.txErr = false → s.pins.flushDone = false → P { s with
      out := { stateOutputs s.regs with opRej := rej, txFlush := true } })
    (op : HState.isBusy s.regs.hs = false → act s = .next t → P t) : P t := by
  rcases hostStep_cases rej act s with ⟨hh, e⟩ | ⟨hh, e⟩ | ⟨hh, e⟩ <;> rw [e] at h
  · rcases awaitStep_cases rej s with ⟨b, r, h2, h1⟩ | ⟨h2, h3, h4, h1⟩ | ⟨h2, h3, h4, h1⟩ | ⟨h2, h3, h1⟩ <;>
      rw [h1] at h <;> cases h
    · exact byte hh _ _ h2
    · exact tick hh h2 h3 h4
    · exact wait hh h2 h3
  · rcases xmitStep_cases rej s with ⟨h2, h3, h1⟩ | ⟨h2, h3, h4, h1⟩ | ⟨h2, h3, h4, h1⟩ | ⟨h2, h3, h1⟩ |
      ⟨h2, h3, h4, h1⟩ | ⟨h2, h3, h4, h1⟩ <;> rw [h1] at h <;> cases h
    · exact writeErr hh h2 h3
    · exact write hh h2 h3 h4
    · exact stall hh h2 h3 h4
    · exact flushErr hh h2 h3
    · exact flushed hh h2 h3 h4
    · exact flushing hh h2 h3 h4
  · exact op hh h

/-- What the block does in a step with `rst` = 0, whatever is presented: a host step of one of these kinds, each with
the word that makes it. -/
theorem block_cases (s u : State)
    (h : (∃ i, fetch s = .ok i ∧ exec i s = .next u) ∨ (∃ r, fetch s = .error r ∧ execRejected r s = .next u)) :
    (fetch s = .ok .nop ∧ hostStep false quietStep s = .next u) ∨
    (∃ b, s.pins.word = .ctrl b ∧ hostStep false quietStep (receiveByte b s) = .next u) ∨
    (∃ c, hostStep true (takeEnc c) s = .next u) ∨
    (∃ len f, hostStep true (takeDec len f) s = .next u) ∨
    (∃ c, fetch s = .ok (.send c) ∧ hostStep true (evalSend c) s = .next u) ∨
    (fetch s = .ok .clr ∧ hostStep true takeClr s = .next u) ∨
    (hostStep true refuseOp s = .next u) := by
  rcases h with ⟨i, hi, h⟩ | ⟨r, hr, h⟩
  · rcases exec_cases i s with ⟨rfl, e⟩ | ⟨rfl, e⟩ | ⟨rfl, e⟩ |
      ⟨-, -, -, ⟨c, e⟩ | ⟨len, f, e⟩ | ⟨c, rfl, e⟩ | ⟨rfl, e⟩⟩ <;> rw [e] at h
    · exact .inl ⟨hi, h⟩
    · exact .inr (.inl ⟨_, (decode_line _).1 hi, h⟩)
    · exact .inr (.inl ⟨_, (decode_line _).2.1 hi, h⟩)
    · exact .inr (.inr (.inl ⟨c, h⟩))
    · exact .inr (.inr (.inr (.inl ⟨len, f, h⟩)))
    · exact .inr (.inr (.inr (.inr (.inl ⟨c, hi, h⟩))))
    · exact .inr (.inr (.inr (.inr (.inr (.inl ⟨hi, h⟩)))))
  · rcases execRejected_cases r s with ⟨op, rfl, e⟩ | ⟨b, rfl, e⟩ | ⟨f, rfl, e⟩ | ⟨d, rfl, e⟩ <;> rw [e] at h
    · exact .inr (.inr (.inr (.inr (.inr (.inr h)))))
    · exact .inr (.inl ⟨b, (decode_line _).2.2 b hr, h⟩)
    · exact .inr (.inr (.inr (.inl ⟨12, f, h⟩)))
    · cases h

end Sys2Proof.Machine
end

