-- ==== Sys2Proof/Tests/Slice0.lean ====
section
/-! SUPPORT. Small tests: words written out from spec/30_encoding.md, single steps from spec/95_test_vectors.md, and a
witness for every statement that has hypotheses. -/

namespace Sys2Proof.Tests

open Sys2Proof Sys2Proof.Machine

/-! ### Well-formedness: each check refuses an ill-formed term -/

/-- Group code 0b11 with a consistent checksum (R67). -/
theorem test_wf_refuses_group : wellFormed (.tgmOn 3 0 0x3C) = false ∧ wellFormed (.tgmOff 3 7 0xF5) = false := by decide

/-- The checksum cell off by one (R67). -/
theorem test_wf_refuses_checksum : wellFormed (.tgmOn 0 0 0x53) = false ∧ wellFormed (.tgmOff 2 7 0xFC) = false := by decide

theorem test_wf_accepts : wellFormed (.tgmOn 0 0 0x54) = true ∧ wellFormed (.tgmOff 2 7 0xFD) = true ∧
    wellFormed (.send ⟨3, 9, 0⟩) = true := by decide

/-! ### Decoding: words written out from the spec's encodings -/

/-- Group A: the DeviceBytes of the table's rows (R66), bit by bit. -/
theorem test_decode_group_a :
    [0b01000000, 0b01000001, 0b01000010, 0b01000011, 0b01000100, 0b01000101, 0b01000110, 0b01000111,
     0b10000000, 0b10000001, 0b10000010, 0b10000011, 0b10000100, 0b10000101, 0b10000110, 0b10000111].map (decodeTableWord 8) =
    [some .a1on, some .a2on, some .a3on, some .a4on, some .a5on, some .a6on, some .a7on, some .a8on,
     some .a1off, some .a2off, some .a3off, some .a4off, some .a5off, some .a6off, some .a7off, some .a8off] := by decide

/-- Group B: the DeviceBytes of the table's rows (R66), bit by bit. -/
theorem test_decode_group_b :
    [0b01001000, 0b01001001, 0b01001010, 0b01001011, 0b01001100, 0b01001101, 0b01001110, 0b01001111,
     0b10001000, 0b10001001, 0b10001010, 0b10001011, 0b10001100, 0b10001101, 0b10001110, 0b10001111].map (decodeTableWord 8) =
    [some .b1on, some .b2on, some .b3on, some .b4on, some .b5on, some .b6on, some .b7on, some .b8on,
     some .b1off, some .b2off, some .b3off, some .b4off, some .b5off, some .b6off, some .b7off, some .b8off] := by decide

/-- Group C: the DeviceBytes of the table's rows (R66), bit by bit. -/
theorem test_decode_group_c :
    [0b01010000, 0b01010001, 0b01010010, 0b01010011, 0b01010100, 0b01010101, 0b01010110, 0b01010111,
     0b10010000, 0b10010001, 0b10010010, 0b10010011, 0b10010100, 0b10010101, 0b10010110, 0b10010111].map (decodeTableWord 8) =
    [some .c1on, some .c2on, some .c3on, some .c4on, some .c5on, some .c6on, some .c7on, some .c8on,
     some .c1off, some .c2off, some .c3off, some .c4off, some .c5off, some .c6off, some .c7off, some .c8off] := by decide

/-- Format HOP (R60): the five operation codes, and the reserved ones refused (R61). -/
theorem test_decode_hop :
    [0b000, 0b001, 0b010, 0b011, 0b100, 0b101, 0b110, 0b111].map (decodeTableWord 3) =
    [some .nop, some (.enc ⟨0, 0, 0⟩), some (.dec 0 zeroFrame), some (.send ⟨0, 0, 0⟩), some .clr, none, none, none] := by
  decide

/-- The operand ports of ENC and DEC (R60, R62): c8off, and a frame with its length. -/
theorem test_decode_hop_operands :
    decode (.hop ⟨0b001, ⟨0b10, 0b1000, 0b10⟩, 0, zeroFrame⟩) = .ok (.enc ⟨2, 8, 2⟩) ∧
    decode (.hop ⟨0b010, ⟨3, 3, 3⟩, 11, telegramFrame 1 0 0 0x54⟩) = .ok (.dec 11 (telegramFrame 1 0 0 0x54)) := ⟨rfl, rfl⟩

/-- Format CTRL (R68): the two control bytes; any other byte on the line is no control byte. -/
theorem test_decode_ctrl :
    decode (.ctrl 0b11111010) = .ok .inq ∧ decode (.ctrl 0b00000101) = .ok .ack ∧
    decodeTableWord 8 0xFA = some .inq ∧ decodeTableWord 8 0x05 = some .ack ∧
    decode (.ctrl 0x55) = .error (.otherByte 0x55) := ⟨rfl, rfl, rfl, rfl, rfl⟩

/-- Format TGM (R67): the pattern string of R67 as a number, byte 0 leftmost, `gg` = 10, `ccc` = 111, `k` = 0xFD; and
the same telegram with byte 0 in the low bits. -/
theorem test_decode_tgm_off :
    decodeTableWord 96 0b010101010001011000000000100101110000000100000000000000000000000000000000000000001111110110101010 =
      some (.tgmOff 2 7 0xFD) ∧
    decodeTableWord 96 0xAAFD00000000000197001655 = some (.tgmOff 2 7 0xFD) := by decide

/-- The telegram of a1on as spec/95_test_vectors.md prints it. -/
theorem test_decode_tgm_on :
    decodeTableWord 96 0x5516004001000000000054AA = some (.tgmOn 0 0 0x54) ∧
    decodeTableWord 96 0xAA5400000000000140001655 = some (.tgmOn 0 0 0x54) ∧
    decodeTableWord 96 0x5516004101000000000154AA = none := by decide

/-- Values that are no DeviceByte: no flag, both flags, bit 5, group 0b11 (R66). -/
theorem test_decode_refuses :
    [0x3F, 0xC0, 0x60, 0x58, 0x98, 0xFF].map (decodeTableWord 8) = [none, none, none, none, none, none] ∧
    decode (.devb 0x00) = .error (.notDeviceByte 0x00) := ⟨rfl, rfl⟩

/-! ### Functions: the vectors of parts V3 to V6 -/

/-- Some rows of V4: the source's fixture, c5off, and the empty sequence. -/
theorem test_cksum :
    cksum [0x55, 0x16, 0x00, 0x40, 0x01, 0, 0, 0, 0, 0] = 0x54 ∧ cksum [0x55, 0x16, 0x00, 0x94, 0x01, 0, 0, 0, 0, 0] = 0x00 ∧
    cksum [] = 0x00 := by decide

/-- Rows of V5, one for each check (R98). -/
theorem test_decode_checks :
    [codecDecode 12 ⟨0x55, 0x16, 0, 0x97, 1, 0, 0, 0, 0, 0, 0xFD, 0xAA⟩,
     codecDecode 13 ⟨0x55, 0x16, 0, 0x40, 1, 0, 0, 0, 0, 0, 0x54, 0xAA⟩,
     codecDecode 12 ⟨0x54, 0x16, 0, 0x40, 1, 0, 0, 0, 0, 0, 0x55, 0xAB⟩,
     codecDecode 12 ⟨0x55, 0x16, 0, 0x40, 1, 0, 0, 0, 0, 0, 0x54, 0xAB⟩,
     codecDecode 12 ⟨0x55, 0x16, 0, 0x40, 1, 0, 0, 0, 0, 0, 0x53, 0xAA⟩,
     codecDecode 12 ⟨0x55, 0x16, 0, 0x40, 1, 0, 0, 0, 0, 1, 0x53, 0xAA⟩,
     codecDecode 12 ⟨0x55, 0x16, 0, 0x60, 1, 0, 0, 0, 0, 0, 0x34, 0xAA⟩] =
    [.command ⟨2, 8, 2⟩, .decodeError .length, .decodeError .header, .decodeError .term, .decodeError .checksum,
     .decodeError .payload, .decodeError .devbyte] := by decide

/-- Rows of V6 (R72). -/
theorem test_parse :
    parseCommand ['A', '4', 'O', 'N'] = ⟨0, 4, 1⟩ ∧ parseCommand ['b', '9', 'o', 'f', 'f'] = ⟨1, 9, 2⟩ ∧
    parseCommand ['a', '1', 'o', 'f', 'f', 'o', 'n'] = ⟨0, 1, 0⟩ ∧ parseCommand ['a'] = ⟨0, 0, 0⟩ ∧
    parseCommand ['a', '4', 'O', 'N', ' '] = ⟨0, 4, 0⟩ := by decide

/-! ### Single steps: the vectors of part V7 -/

/-- A configuration with the given counts. -/
def testParams (attemptTicks maxAttempts : Nat) : Params := ⟨attemptTicks, maxAttempts, ⟨1, by decide⟩, .w8⟩

/-- The state before each row of V7: the telegram of a1on, configuration 3, 2. -/
def v7 (hs : HState) (reason : Reason) (txidx : BitVec 4) (tmr cnt : BitVec 16) : State :=
  { State.reset with
    cfg := testParams 3 2
    regs := { Regs.reset with
      hs := hs
      reason := reason
      txidx := txidx
      attTmr := tmr
      attCnt := cnt
      tb := ⟨0x55, 0x16, 0x00, 0x40, 0x01, 0, 0, 0, 0, 0, 0x54, 0xAA⟩
      tbValid := true
      ckacc := 0xAC } }

/-- An operation with a Command at the ports. -/
def opPins (op : BitVec 3) (c : Command) : Pins := { Pins.idle with word := .hop ⟨op, c, 0, zeroFrame⟩ }

/-- `HS`, `REASON`, `TXIDX` and the timers after a step. -/
def shown : Result → Option (HState × Reason × BitVec 4 × BitVec 16 × BitVec 16)
  | .next t => some (t.regs.hs, t.regs.reason, t.regs.txidx, t.regs.attTmr, t.regs.attCnt)
  | .fault _ => none
  | .refused _ => none

/-- `op_ack`, `op_rej`, `tx_valid`, `tx_data`, `tx_flush`, `rx_pop`, `wr_lock` of a step. -/
def driven : Result → Option (Bool × Bool × Bool × Byte × Bool × Bool × Bool)
  | .next t => some (t.out.opAck, t.out.opRej, t.out.txValid, t.out.txData, t.out.txFlush, t.out.rxPop, t.out.wrLock)
  | .fault _ => none
  | .refused _ => none

/-- `HS` and the receive queue after a step. -/
def queued : Result → Option (HState × List Byte)
  | .next t => some (t.regs.hs, t.rx)
  | .fault _ => none
  | .refused _ => none

/-- The register an observer picks, after a step. -/
def after {α : Type} (pick : Regs → α) : Result → Option α
  | .next t => some (pick t.regs)
  | .fault _ => none
  | .refused _ => none

/-- S1, S2: a tick goes on with the attempt, or ends it (NOP in AWAIT). -/
theorem test_nop_counts_ticks :
    shown (step { v7 .await .none 0 0 0 with pins := { Pins.idle with tick := true } }) = some (.await, .none, 0, 1, 0) ∧
    shown (step { v7 .await .none 0 2 0 with pins := { Pins.idle with tick := true } }) = some (.await, .none, 0, 0, 1) := ⟨rfl, rfl⟩

/-- S4: the last tick of the last attempt. -/
theorem test_nop_times_out :
    shown (step { v7 .await .none 0 2 1 with pins := { Pins.idle with tick := true } }) = some (.failed, .timeout, 0, 0, 1) := rfl

/-- S5, S9: a byte beats the tick; CLR is refused beside it. -/
theorem test_ack_beats_tick :
    shown (step { v7 .await .none 0 2 1 with
      rx := [0x05], pins := { Pins.idle with tick := true } }) = some (.xmit, .none, 0, 2, 1) ∧
    driven (step { v7 .await .none 0 1 0 with rx := [0x05], pins := opPins 4 idleCommand }) =
      some (false, true, false, 0, false, true, true) := ⟨rfl, rfl⟩

/-- The control bytes on the line in AWAIT (R68). -/
theorem test_ctrl_in_await :
    shown (step (State.withFetchWord (v7 .await .none 0 1 0) 8 0x05)) = some (.xmit, .none, 0, 1, 0) ∧
    shown (step (State.withFetchWord (v7 .await .none 0 1 0) 8 0xFA)) = some (.failed, .unexpected, 0, 1, 0) := ⟨rfl, rfl⟩

/-- S13, S14: cells 10 and 11 go out, a received byte and a flush answer ignored. -/
theorem test_xmit_writes :
    driven (step { v7 .xmit .none 10 0 0 with
      rx := [0xFA], pins := { Pins.idle with txReady := true, tick := true } }) =
      some (false, false, true, 0x54, false, false, true) ∧
    shown (step { v7 .xmit .none 11 0 0 with pins := { Pins.idle with txReady := true, flushDone := true } }) =
      some (.xmit, .none, 12, 0, 0) := ⟨rfl, rfl⟩

/-- S15, S18, S19: errors beat `tx_ready` and `flush_done`; the end of the flush. -/
theorem test_xmit_ends :
    shown (step { v7 .xmit .none 11 0 0 with pins := { Pins.idle with txReady := true, txErr := true } }) =
      some (.failed, .writeErr, 11, 0, 0) ∧
    shown (step { v7 .xmit .none 12 0 0 with pins := { Pins.idle with flushDone := true } }) =
      some (.complete, .none, 12, 0, 0) ∧
    shown (step { v7 .xmit .none 12 0 0 with pins := { Pins.idle with txErr := true, flushDone := true } }) =
      some (.failed, .writeErr, 12, 0, 0) := ⟨rfl, rfl, rfl⟩

/-- S20: SEND refused in XMIT while a byte goes out. -/
theorem test_send_refused_busy :
    driven (step { v7 .xmit .none 5 0 0 with pins := { opPins 3 ⟨1, 2, 1⟩ with txReady := true } }) =
      some (false, true, true, 0x00, false, false, true) := rfl

/-- S22, S29: CLR. -/
theorem test_clr :
    shown (step { v7 .failed .timeout 0 0 1 with pins := opPins 4 idleCommand }) = some (.idle, .none, 0, 0, 1) ∧
    driven (step { v7 .idle .none 0 0 0 with pins := opPins 4 idleCommand }) =
      some (true, false, false, 0, false, false, false) := ⟨rfl, rfl⟩

/-- S23: ENC in FAILED keeps the failure and rewrites the telegram. -/
theorem test_enc_in_failed :
    shown (step { v7 .failed .writeErr 7 0 0 with pins := opPins 1 ⟨2, 1, 1⟩ }) = some (.failed, .writeErr, 7, 0, 0) ∧
    after (fun r => (r.tb.b3, r.tb.b10)) (step { v7 .failed .writeErr 7 0 0 with pins := opPins 1 ⟨2, 1, 1⟩ }) =
      some (0x50, 0x44) := ⟨rfl, rfl⟩

/-- S24, S25, S26: SEND waits, is taken, meets a write error. -/
theorem test_send_port :
    shown (step { v7 .failed .writeErr 7 0 0 with pins := opPins 3 ⟨2, 1, 1⟩ }) = some (.failed, .writeErr, 7, 0, 0) ∧
    shown (step { v7 .failed .writeErr 7 2 1 with pins := { opPins 3 ⟨2, 1, 1⟩ with txReady := true } }) =
      some (.await, .none, 0, 0, 0) ∧
    shown (step { v7 .complete .none 12 0 0 with pins := { opPins 3 ⟨2, 1, 1⟩ with txErr := true } }) =
      some (.failed, .writeErr, 0, 0, 0) := ⟨rfl, rfl, rfl⟩

/-- S27: SEND of an invalid Command. -/
theorem test_send_invalid :
    after (fun r => (r.hs, r.encErr, r.tb.b3)) (step { v7 .complete .none 12 0 0 with
      pins := { opPins 3 ⟨2, 0, 1⟩ with txReady := true } }) = some (.idle, 0b010, 0x40) := rfl

/-- S28: a reserved code. -/
theorem test_reserved :
    driven (step { v7 .idle .none 0 0 0 with pins := opPins 5 idleCommand }) =
      some (false, true, false, 0, false, false, false) := rfl

/-- S30: reset in mid-telegram. -/
theorem test_reset_overrides :
    after (fun r => (r.hs, r.txidx, r.tbValid)) (step { v7 .xmit .none 4 0 0 with
      pins := { opPins 3 ⟨0, 1, 1⟩ with rst := true, txReady := true } }) = some (.idle, 0, false) ∧
    driven (step { v7 .xmit .none 4 0 0 with pins := { opPins 3 ⟨0, 1, 1⟩ with rst := true, txReady := true } }) =
      some (false, false, false, 0, false, false, true) := ⟨rfl, rfl⟩

/-- P6 steps 3 and 15: DEC with a wrong checksum, and of c8off. -/
theorem test_dec :
    after (fun r => (r.decErr, r.dcmdValid, r.ckacc)) (execDec 12 ⟨0x55, 0x16, 0, 0x94, 1, 0, 0, 0, 0, 0, 1, 0xAA⟩ State.reset) =
      some (.checksum, false, 1) ∧
    after (fun r => (r.decErr, r.dgrp, r.dchan, r.dact)) (execDec 12 ⟨0x55, 0x16, 0, 0x97, 1, 0, 0, 0, 0, 0, 0xFD, 0xAA⟩
      State.reset) = some (.ok, 2, 8, 2) := ⟨rfl, rfl⟩

/-- A telegram as the first instruction after reset is decoded. -/
theorem test_tgm_first :
    after (fun r => (r.decErr, r.dgrp, r.dchan, r.dact)) (step (State.withFetchWord State.reset 96 0x5516008B01000000000009AA)) =
      some (.ok, 1, 4, 2) := rfl

/-- A command word as the first instruction after reset builds its telegram: c5off, checksum 0 (V2). -/
theorem test_command_word_first :
    after (fun r => (r.tb.b3, r.tb.b10, r.ckacc)) (step (State.withFetchWord State.reset 8 0x94)) =
      some (0x94, 0x00, 0x00) := rfl

/-- A byte that is no DeviceByte is refused by name. -/
theorem test_not_a_command_word :
    step (State.withFetchWord State.reset 8 0x98) = .refused (.notACommandWord 0x98) := rfl

/-- Outside the range of R6 a counted tick faults. -/
theorem test_config_fault :
    step { v7 .await .none 0 0 0 with cfg := testParams 0 2, pins := { Pins.idle with tick := true } } =
      .fault .configOutOfRange := rfl

/-- The reader loop keeps off while the block waits, and answers an INQ otherwise (R166, R170). -/
theorem test_reader_loop :
    (envAct .readerTurn { v7 .await .none 0 0 0 with rx := [0xFA], session := ⟨true, false, .lf⟩ }).rx = [0xFA] ∧
    (envAct .readerTurn { v7 .idle .none 0 0 0 with rx := [0xFA], session := ⟨true, false, .lf⟩ }).tx = [0x05, 0x05] := by
  decide

/-- In XMIT the reader loop may pop, and its reply waits for the lock (R170). -/
theorem test_reader_loop_defers :
    (envAct .readerTurn { v7 .xmit .none 3 0 0 with rx := [0xFA], session := ⟨true, false, .lf⟩ }).tx = [] ∧
    (envAct .readerTurn { v7 .complete .none 12 0 0 with ackOwed := 2, session := ⟨true, false, .lf⟩ }).tx = [0x05, 0x05] := by
  decide

/-- The keyboard loop translates a newline and echoes it (R167, R172). -/
theorem test_keyboard_loop :
    (envAct (.key .newline) { v7 .idle .none 0 0 0 with session := ⟨true, true, .crlf⟩ }).tx = [0x0D, 0x0A] ∧
    (envAct (.key .newline) { v7 .idle .none 0 0 0 with session := ⟨true, true, .crlf⟩ }).display = [0x0D, 0x0A] ∧
    (envAct (.key .exit) { v7 .idle .none 0 0 0 with session := ⟨true, true, .crlf⟩ }).session.alive = false := by decide

/-! ### Witnesses: every statement with hypotheses has a state and operands that meet them -/

theorem witness_DecodeEncodeRoundTrip :
    wellFormed (.tgmOn 0 0 0x54) = true ∧ wellFormed (.tgmOff 2 7 0xFD) = true ∧ wellFormed .nop = true := by decide

theorem witness_AcceptedWordIsItsEncoding :
    decode (.ctrl 0xFA) = .ok .inq ∧ decode (.tgm (telegramFrame 2 3 7 0)) = .ok (.tgmOff 3 7 0) ∧
    decode (.devb 0x97) = .ok .c8off ∧ decode (.hop ⟨1, ⟨3, 15, 3⟩, 9, zeroFrame⟩) = .ok (.enc ⟨3, 15, 3⟩) ∧
    decode (.hop ⟨2, ⟨3, 15, 3⟩, 255, zeroFrame⟩) = .ok (.dec 255 zeroFrame) := ⟨rfl, rfl, rfl, rfl, rfl⟩

theorem witness_ReservedOpsRefused :
    (∃ h : HostPorts, { v7 .await .none 0 0 0 with pins := opPins 5 idleCommand }.pins.word = .hop h ∧ h.op = 5 ∧
      { v7 .await .none 0 0 0 with pins := opPins 5 idleCommand }.pins.rst = false) ∧
    (∃ h : HostPorts, { v7 .idle .none 0 0 0 with pins := opPins 7 idleCommand }.pins.word = .hop h ∧ h.op = 7) ∧
    (∃ t, exec .nop { v7 .await .none 0 0 0 with pins := opPins 5 idleCommand } = .next t) :=
  ⟨⟨_, rfl, rfl, rfl⟩, ⟨_, rfl, rfl⟩, ⟨_, rfl⟩⟩

/-- Valid operands at both ends of their ranges (DeviceByteAssembly, DeviceByteInverse, ChecksumFormula,
ParsePrintRoundTrip, EncodeGivesTheFrame, CodecRoundTrip). -/
theorem witness_GoodOperands :
    GoodOperands ⟨0, 1, 0b01⟩ ∧ GoodOperands ⟨2, 8, 0b10⟩ ∧ GoodOperands ⟨2, 5, 0b10⟩ := by
  unfold GoodOperands
  decide

/-- Invalid operands, each cause alone and just outside its range (EncodeGivesTheFrame, EncBuildsOrReports). -/
theorem witness_badOperands :
    ¬ GoodOperands ⟨3, 1, 0b01⟩ ∧ ¬ GoodOperands ⟨0, 0, 0b01⟩ ∧ ¬ GoodOperands ⟨0, 9, 0b01⟩ ∧ ¬ GoodOperands ⟨0, 1, 0b00⟩ ∧
    ¬ GoodOperands ⟨0, 1, 0b11⟩ := by
  unfold GoodOperands
  decide

theorem witness_DeviceByteInverse :
    validDevbyte 0x40 = true ∧ validDevbyte 0x97 = true ∧ validDevbyte 0x57 = true ∧ validDevbyte 0x80 = true := by decide

theorem witness_CodecRoundTrip :
    codecDecodeSeq [0x55, 0x16, 0x00, 0x40, 0x01, 0, 0, 0, 0, 0, 0x54, 0xAA] = .command ⟨0, 1, 0b01⟩ ∧
    (∃ f, codecEncode ⟨2, 8, 0b10⟩ = .frame f) := ⟨by decide, ⟨_, rfl⟩⟩

/-- Upper case and lower case strings of the same Command. -/
theorem witness_ParsePrintRoundTrip :
    encCheck (parseCommand ['C', '8', 'O', 'F', 'F']) = 0 ∧
    ['A', '1', 'O', 'n'].map lowerChar = printCommand ⟨0, 1, 0b01⟩ := by decide

theorem witness_SumIgnoresOrder : [0x01, 0xFF, (0x02 : Byte)].Perm [0x02, 0x01, 0xFF] := by decide

theorem witness_ChecksumDetectsOneChange :
    (Frame.beforeTerminator (telegramFrame 1 0 0 0x54))[0]? = some 0x55 ∧
    (Frame.beforeTerminator (telegramFrame 1 0 0 0x54))[10]? = some 0x54 ∧
    devbyte ⟨0, 2, 1⟩ = devbyte ⟨0, 1, 1⟩ + 1 ∧ ckOk (telegramFrame 1 0 0 0x54) = true ∧ (Frame.beforeTerminator (telegramFrame 1 0 0 0x54))[0]? ≠ some 0x54 ∧
    (Frame.beforeTerminator (telegramFrame 1 0 0 0x54))[10]? ≠ some 0x53 := by decide

/-- States that are not busy, one of each kind (NopChangesNothing, EncBuildsOrReports, DecRecordsResult,
ClrDestroysInstance, CommandWordsGroupA, CommandWordsGroupB, CommandWordsGroupC, TelegramsDecode,
ControlBytesWaitInPort). -/
theorem witness_NotBusy :
    NotBusy State.reset ∧ NotBusy (v7 .complete .none 12 0 0) ∧ NotBusy (v7 .failed .timeout 0 0 1) := ⟨rfl, rfl, rfl⟩

/-- Busy states of both kinds (EncBuildsOrReports, DecRecordsResult, ClrDestroysInstance). -/
theorem witness_Busy : Busy (v7 .await .none 0 2 1) ∧ Busy (v7 .xmit .none 12 0 0) := ⟨rfl, rfl⟩

/-- The invariant of R28 in a busy state that no reset left. -/
theorem witness_RegsInv_await : RegsInv { v7 .await .none 0 2 1 with rx := [0x05] } := by
  refine ⟨by simp [ReasonInv, v7], by simp [IndexInv, v7], ⟨by simp [v7], ?_, by simp [v7, Regs.reset]⟩,
    by simp [TimerInv, v7, testParams], by simp [DecodeInv, v7, Regs.reset, State.reset]⟩
  exact fun _ => ⟨⟨0, 1, 1⟩, by decide, by decide⟩

theorem witness_RegsInv_idle : RegsInv (v7 .idle .none 0 2 1) := by
  refine ⟨by simp [ReasonInv, v7], by simp [IndexInv, v7], ⟨by simp [v7], ?_, by simp [v7]⟩,
    by simp [TimerInv, v7, testParams], by simp [DecodeInv, v7, Regs.reset, State.reset]⟩
  exact fun _ => ⟨⟨0, 1, 1⟩, by decide, by decide⟩

theorem witness_ClrDestroysInstance :
    RegsInv (v7 .idle .none 0 2 1) ∧ (v7 .idle .none 0 2 1).regs.hs = .idle := ⟨witness_RegsInv_idle, rfl⟩

theorem witness_SendInvalidLeavesIdle : NotBusy (v7 .complete .none 12 0 0) ∧ ¬ GoodOperands ⟨2, 0, 0b01⟩ :=
  ⟨rfl, by unfold GoodOperands; decide⟩

/-- The code clauses of NopChangesNothing and SendStartsHandshake, with the unread ports all ones. -/
theorem witness_codes :
    decode (.hop ⟨0b000, ⟨3, 15, 3⟩, 0xFF, telegramFrame 3 3 7 0xFF⟩) = .ok .nop ∧
    decode (.hop ⟨0b011, ⟨2, 8, 0b10⟩, 0xFF, telegramFrame 3 3 7 0xFF⟩) = .ok (.send ⟨2, 8, 0b10⟩) := ⟨rfl, rfl⟩

theorem witness_SendStartsHandshake :
    NotBusy { v7 .failed .writeErr 7 2 1 with pins := readyPins } ∧ GoodOperands ⟨2, 1, 0b01⟩ ∧
    { v7 .failed .writeErr 7 2 1 with pins := readyPins }.pins.txErr = false ∧
    { v7 .failed .writeErr 7 2 1 with pins := readyPins }.pins.txReady = true :=
  ⟨rfl, by unfold GoodOperands; decide, rfl, rfl⟩

theorem witness_SendWaitsForPort :
    NotBusy State.reset ∧ GoodOperands ⟨2, 8, 0b10⟩ ∧ State.reset.pins.txErr = false ∧ State.reset.pins.txReady = false :=
  ⟨rfl, by unfold GoodOperands; decide, rfl, rfl⟩

theorem witness_SendWriteErrorFails :
    NotBusy { State.reset with pins := { readyPins with txErr := true } } ∧ GoodOperands ⟨0, 1, 0b01⟩ ∧
    { State.reset with pins := { readyPins with txErr := true } }.pins.txErr = true :=
  ⟨rfl, by unfold GoodOperands; decide, rfl⟩

theorem witness_BusyRefusesOperations :
    Busy (v7 .await .none 0 0 0) ∧ Instr.clr ≠ .nop ∧ Instr.clr ≠ .inq ∧ Instr.clr ≠ .ack ∧
    (∃ t, exec .nop (v7 .await .none 0 0 0) = .next t) := ⟨rfl, nofun, nofun, nofun, ⟨_, rfl⟩⟩

theorem witness_TelegramFixedWhileBusy :
    Busy (v7 .xmit .none 3 0 0) ∧ ∃ t, exec (.enc ⟨2, 8, 2⟩) (v7 .xmit .none 3 0 0) = .next t := ⟨rfl, ⟨_, rfl⟩⟩

theorem witness_OnlySendAndClrTouchHandshake :
    NotBusy (v7 .failed .writeErr 7 0 0) ∧ (∀ c, Instr.a1on ≠ .send c) ∧ Instr.a1on ≠ .clr ∧
    ∃ t, exec .a1on (v7 .failed .writeErr 7 0 0) = .next t := ⟨rfl, nofun, nofun, ⟨_, rfl⟩⟩

/-- Each branch of the registers TelegramsDecode gives, at its boundary. -/
theorem witness_TelegramsDecode :
    after (fun r => (r.decErr, r.dchan)) (exec (.tgmOff 2 7 0xFD) State.reset) = some (.ok, 8) ∧
    after (fun r => (r.decErr, r.ckacc)) (exec (.tgmOn 0 0 0x55) State.reset) = some (.checksum, 1) ∧
    after (fun r => (r.decErr, r.dcmdValid)) (exec (.tgmOn 3 0 0x3C) State.reset) = some (.devbyte, false) := ⟨rfl, rfl, rfl⟩

/-- AWAIT with an empty port (ControlBytesJudgedInAwait) and with bytes in it (AwaitJudgesOldestByte,
ControlBytesJudgedInAwait). -/
theorem witness_await :
    (v7 .await .none 0 1 0).regs.hs = .await ∧ (v7 .await .none 0 1 0).rx = [] ∧
    { v7 .await .none 0 1 0 with rx := [0x05, 0x05] }.rx = [0x05, 0x05] ∧
    { v7 .await .none 0 1 0 with rx := [0xFA] }.rx = [0xFA] := ⟨rfl, rfl, rfl, rfl⟩

/-- A control byte behind an older byte in AWAIT, and in XMIT, stays in the queue (ControlBytesJudgedInAwait; R228). -/
theorem witness_ControlBytesJudgedInAwait :
    queued (exec .inq { v7 .await .none 0 1 0 with rx := [0x05] }) = some (.xmit, [0xFA]) ∧
    queued (exec .ack { v7 .xmit .none 12 0 0 with rx := [0x33] }) = some (.xmit, [0x33, 0x05]) ∧ (v7 .xmit .none 12 0 0).regs.hs = .xmit := ⟨rfl, rfl, rfl⟩

/-- The three branches of AwaitCountsTick, under a configuration at the top of its range too. -/
theorem witness_AwaitCountsTick :
    shown (exec .nop { v7 .await .none 0 65533 0 with
      cfg := testParams 65535 65535, pins := { Pins.idle with tick := true } }) = some (.await, .none, 0, 65534, 0) ∧
    shown (exec .nop { v7 .await .none 0 65534 65533 with
      cfg := testParams 65535 65535, pins := { Pins.idle with tick := true } }) = some (.await, .none, 0, 0, 65534) ∧
    shown (exec .nop { v7 .await .none 0 0 0 with
      cfg := testParams 1 1, pins := { Pins.idle with tick := true } }) = some (.failed, .timeout, 0, 0, 0) := ⟨rfl, rfl, rfl⟩

theorem witness_AwaitWaitsUnchanged :
    let s := { v7 .await .none 0 1 0 with pins := opPins 5 idleCommand, script := [opPins 4 idleCommand] }
    s.regs.hs = .await ∧ s.rx = [] ∧ s.pins.tick = false ∧ Instr.clr ≠ .inq ∧ Instr.clr ≠ .ack ∧ NoBytePins s.pins ∧
    (∀ p ∈ s.script, NoBytePins p ∧ p.tick = false) :=
  ⟨rfl, rfl, rfl, nofun, nofun, ⟨rfl, rfl, _, rfl⟩,
    fun p hp => by rw [List.mem_singleton.1 hp]; exact ⟨⟨rfl, rfl, _, rfl⟩, rfl⟩⟩

/-- The first and last cell of the write phase and the flush phase (XmitWritePhase, XmitFlushPhase). -/
theorem witness_xmit :
    (v7 .xmit .none 0 0 0).regs.hs = .xmit ∧
    (Frame.elements (v7 .xmit .none 0 0 0).regs.tb)[(v7 .xmit .none 0 0 0).regs.txidx.toNat]? = some 0x55 ∧
    (Frame.elements (v7 .xmit .none 11 0 0).regs.tb)[(v7 .xmit .none 11 0 0).regs.txidx.toNat]? = some 0xAA ∧
    (v7 .xmit .none 11 0 0).regs.txidx.toNat ≤ 11 ∧ (v7 .xmit .none 12 0 0).regs.txidx = 12 := by decide

theorem witness_EveryInstructionCompletes :
    1 ≤ State.reset.cfg.attemptTicks ∧ State.reset.cfg.maxAttempts ≤ 65535 ∧
    exec .clr { v7 .await .none 0 0 0 with cfg := testParams 3 65536, pins := { Pins.idle with tick := true } } =
      .fault .configOutOfRange := ⟨by decide, by decide, rfl⟩

/-- A next state of an instruction that pops and of one that transfers (OutputsFollowState, TransferExactlyWhenReady,
PopOnlyInAwait). -/
theorem witness_next :
    driven (exec .ack (v7 .await .none 0 0 0)) = some (false, false, false, 0, false, true, true) ∧
    driven (exec (.send ⟨0, 1, 1⟩) { State.reset with pins := readyPins }) =
      some (true, false, true, 0xFA, false, false, false) := ⟨rfl, rfl⟩

theorem witness_StepRunsDecodedInstruction :
    (State.withFetchWord State.reset 8 0x40).pins.rst = false ∧
    decode (State.withFetchWord State.reset 8 0x40).pins.word = .ok .a1on ∧
    (∃ t, exec .a1on (State.withFetchWord State.reset 8 0x40) = .next t) ∧
    exec .clr { v7 .await .none 0 0 0 with cfg := testParams 0 1, pins := { Pins.idle with tick := true } } =
      .fault .configOutOfRange := ⟨rfl, rfl, ⟨_, rfl⟩, rfl⟩

/-- The acts at the ports happen once each, in their order (StepRunsDecodedInstruction). -/
theorem test_acts_in_order :
    (endOfStep { State.reset with pins := { Pins.idle with acts :=
      [.key (.char 1), .start, .key (.char 2), .key (.char 3), .stop, .key (.char 4)] } }).tx = [2, 3] := rfl

/-- A length other than 12, with an unread cell that is not 0 (DecRecordsResult; R44). -/
theorem witness_DecRecordsResult :
    (11 : BitVec Config.decLenW) ≠ 12 ∧ (13 : BitVec Config.decLenW) ≠ 12 ∧
    codecDecode 11 (telegramFrame 1 0 0 0x54) = .decodeError .length := by decide

theorem witness_ResetOverridesEverything :
    { v7 .xmit .none 4 0 0 with pins := { Pins.idle with rst := true } }.pins.rst = true := rfl

/-- Steps that have a next state (ParametersNeverChange), and the transitions of HandshakeTransitions. -/
theorem witness_HandshakeTransitions :
    (∃ t, step (v7 .await .none 0 0 0) = .next t) ∧ (∃ t, step (v7 .xmit .none 12 0 0) = .next t) ∧
    after (fun r => r.hs) (step { v7 .complete .none 12 0 0 with pins := opPins 4 idleCommand }) = some .idle ∧
    after (fun r => r.hs) (step { v7 .idle .none 0 0 0 with pins := sendPins ⟨0, 1, 1⟩ }) = some .await :=
  ⟨⟨_, rfl⟩, ⟨_, rfl⟩, rfl, rfl⟩

theorem witness_XmitOnlyAfterAck :
    after (fun r => r.hs) (step { v7 .await .none 0 0 0 with rx := [0x05] }) = some .xmit ∧
    after (fun r => r.hs) (step (State.withFetchWord (v7 .await .none 0 0 0) 8 0x05)) = some .xmit := ⟨rfl, rfl⟩

theorem witness_NoRetryWithoutSend :
    NotBusy (v7 .failed .writeErr 7 0 0) ∧ (∀ c, fetch (v7 .failed .writeErr 7 0 0) ≠ .ok (.send c)) ∧
    ∃ t, step (v7 .failed .writeErr 7 0 0) = .next t := ⟨rfl, nofun, ⟨_, rfl⟩⟩

theorem witness_AgentsKeepOff :
    Busy (v7 .xmit .none 3 0 0) ∧ (v7 .await .none 0 0 0).regs.hs = .await ∧ State.reset.session.alive = false ∧
    (let s := { v7 .idle .none 0 0 0 with session := ⟨true, true, .crlf⟩ }
     s.session.alive = true ∧ NotBusy s) := ⟨rfl, rfl, rfl, rfl, rfl⟩

/-- Each clause of ReaderLoopAnswersInq: a free write side with a reply still owed, XMIT, the waits, an empty port. -/
theorem witness_ReaderLoopAnswersInq :
    (let s := { v7 .idle .none 0 0 0 with rx := [0xFA], ackOwed := 2, session := ⟨true, false, .lf⟩ }
     s.session.alive = true ∧ NotBusy s ∧ s.rx = [0xFA]) ∧
    (let s := { v7 .xmit .none 3 0 0 with rx := [0xFA], session := ⟨true, false, .lf⟩ }
     s.session.alive = true ∧ s.regs.hs = .xmit ∧ s.ackOwed = 0 ∧ s.rx = [0xFA]) ∧
    (let s := { v7 .xmit .none 3 0 0 with rx := [0xFA], ackOwed := 2, session := ⟨true, false, .lf⟩ }
     Busy s ∧ s.ackOwed ≠ 0) ∧
    (let s := { v7 .failed .writeErr 7 0 0 with ackOwed := 2, session := ⟨true, false, .lf⟩ }
     s.session.alive = true ∧ NotBusy s ∧ s.rx = []) :=
  ⟨⟨rfl, rfl, rfl⟩, ⟨rfl, rfl, rfl, rfl⟩, ⟨rfl, nofun⟩, ⟨rfl, rfl, rfl⟩⟩

/-- Each clause of OtherWordsAct, at a neighbour of a row's word. -/
theorem witness_OtherWordsAct :
    decode (.ctrl 0x04) = .error (.otherByte 0x04) ∧ decode (.ctrl 0xFB) = .error (.otherByte 0xFB) ∧
    decode (.tgm (telegramFrame 3 0 0 0)) = .error (.notTelegram (telegramFrame 3 0 0 0)) ∧
    validDevbyte 0x58 = false ∧ validDevbyte 0x98 = false := ⟨rfl, rfl, rfl, rfl, rfl⟩

/-- A byte on the line in a step with `rst` = 1 stays in the port's queue (R221, log entry 14). -/
theorem test_reset_keeps_line_byte :
    (match step { v7 .await .none 0 0 0 with rx := [0x00], pins := { Pins.idle with rst := true, word := .ctrl 0x05 } } with
      | .next t => some (t.rx, t.out.rxPop)
      | .fault _ => none
      | .refused _ => none) = some ([0x00, 0x05], false) := rfl

theorem witness_RegisterInvariantKept :
    RegsInv { v7 .await .none 0 2 1 with rx := [0x05] } ∧ ∃ t, step { v7 .await .none 0 2 1 with rx := [0x05] } = .next t :=
  ⟨witness_RegsInv_await, ⟨_, rfl⟩⟩

theorem witness_RegsInv_xmit : RegsInv (v7 .xmit .none 2 2 1) := by
  refine ⟨by simp [ReasonInv, v7], by simp [IndexInv, v7], ⟨by simp [v7], ?_, by simp [v7, Regs.reset]⟩,
    by simp [TimerInv, v7, testParams], by simp [DecodeInv, v7, Regs.reset, State.reset]⟩
  exact fun _ => ⟨⟨0, 1, 1⟩, by decide, by decide⟩

theorem witness_StreamInvariantKept :
    (RegsInv { v7 .await .none 0 2 1 with rx := [0x05], tx := [0xFA] } ∧
      StreamInv { v7 .await .none 0 2 1 with rx := [0x05], tx := [0xFA] } ∧
      ∃ t, step { v7 .await .none 0 2 1 with rx := [0x05], tx := [0xFA] } = .next t) ∧
    (RegsInv { v7 .xmit .none 2 2 1 with tx := [0xFA, 0x55, 0x16], pins := readyPins } ∧
      StreamInv { v7 .xmit .none 2 2 1 with tx := [0xFA, 0x55, 0x16], pins := readyPins } ∧
      ∃ t, step { v7 .xmit .none 2 2 1 with tx := [0xFA, 0x55, 0x16], pins := readyPins } = .next t) :=
  ⟨⟨witness_RegsInv_await, ⟨fun _ => ⟨[], rfl⟩, nofun⟩, ⟨_, rfl⟩⟩,
    ⟨witness_RegsInv_xmit, ⟨nofun, fun _ => ⟨by decide, [], rfl⟩⟩, ⟨_, rfl⟩⟩⟩

/-- A silent step with a tick. -/
def silentTick : Pins := { Pins.idle with tick := true }

/-- Just before the last counted tick, and at it, with a CLR presented beside the wait. -/
theorem witness_SilentDeviceTimesOut :
    let s := { State.reset with
      pins := { sendPins ⟨2, 8, 2⟩ with acts := [] }
      script := List.replicate 4 { opPins 4 idleCommand with tick := true } }
    NotBusy s ∧ s.rx = [] ∧ s.pins.rst = false ∧ s.pins.acts = [] ∧ s.pins.word = .hop ⟨3, ⟨2, 8, 2⟩, 0, zeroFrame⟩ ∧
    GoodOperands ⟨2, 8, 2⟩ ∧ s.pins.txErr = false ∧ s.pins.txReady = true ∧ (∀ p ∈ s.script, NoBytePins p) ∧
    ticksIn (s.script.take (4 - 1)) < s.cfg.attemptTicks * s.cfg.maxAttempts ∧
    ¬ ticksIn (s.script.take 4) < s.cfg.attemptTicks * s.cfg.maxAttempts ∧ 4 ≤ s.script.length :=
  ⟨rfl, rfl, rfl, rfl, rfl, by unfold GoodOperands; decide, rfl, rfl,
    fun p hp => by rw [List.eq_of_mem_replicate hp]; exact ⟨rfl, rfl, _, rfl⟩, by decide, by decide, by decide⟩

/-- The other disjunct: a silent host, past the deadline. -/
theorem witness_SilentDeviceTimesOut_silentHost :
    (∀ p ∈ List.replicate 6 silentTick, SilentPins p) ∧ ¬ ticksIn ((List.replicate 6 silentTick).take 6) < 2 * 2 :=
  ⟨fun p hp => by rw [List.eq_of_mem_replicate hp]; exact ⟨rfl, rfl, _, rfl, rfl⟩, by decide⟩

theorem witness_ShortestHandshakeCompletes :
    let s := { State.reset with
      pins := sendPins ⟨2, 8, 2⟩, script := Pins.idle :: (List.replicate 12 readyPins ++ [flushPins]) }
    NotBusy s ∧ GoodOperands ⟨2, 8, 2⟩ ∧ s.rx = [] ∧ s.pins = sendPins ⟨2, 8, 2⟩ ∧ s.regs.hs ≠ .complete ∧
    ∃ t, runSteps 2 s = .next t :=
  ⟨rfl, by unfold GoodOperands; decide, rfl, rfl, nofun, ⟨_, rfl⟩⟩

end Sys2Proof.Tests
end

section
/-! PROOFS. The packed status word (spec/10_state.md R29). Its fields are read off the concatenation by the library's
lemmas about `++`: a read above the last part goes on in the parts before it, a read within it ends there. -/

namespace Sys2Proof.Machine

/-- Busy in the words of R9: AWAIT or XMIT. -/
theorem isBusy_eq_decide (h : HState) : HState.isBusy h = decide (h = .await ∨ h = .xmit) := by
  cases h <;> rfl

/-- The one-bit fields: the two valid flags at the top, `done`, `failed` and `busy` at the bottom. -/
theorem statusWord_flags (r : Regs) :
    (statusWord r).getLsbD 15 = r.dcmdValid ∧ (statusWord r).getLsbD 14 = r.tbValid ∧
    (statusWord r).getLsbD 2 = decide (r.hs = .complete) ∧ (statusWord r).getLsbD 1 = decide (r.hs = .failed) ∧
    (statusWord r).getLsbD 0 = decide (r.hs = .await ∨ r.hs = .xmit) := by
  simp only [statusWord, BitVec.getLsbD_append, isBusy_eq_decide, beq_eq_decide]
  simp

/-- The fields of several bits: the two error registers, `REASON` and `HS`. -/
theorem statusWord_codes (r : Regs) :
    (statusWord r).extractLsb' 11 3 = DecErr.code r.decErr ∧ (statusWord r).extractLsb' 8 3 = r.encErr ∧
    (statusWord r).extractLsb' 6 2 = Reason.code r.reason ∧ (statusWord r).extractLsb' 3 3 = HState.code r.hs := by
  simp (disch := decide) only [statusWord, BitVec.extractLsb'_append_eq_of_le, BitVec.extractLsb'_append_eq_right,
    Nat.reduceSub, and_self]

theorem statusWord_reset : statusWord Regs.reset = 0x0000 := by decide

/-- Settles O48: the fields of the word for all registers, then the reset value and the codes, which are closed. -/
theorem statusWordLayout : Obligations.StatusWordLayout := by
  unfold Obligations.StatusWordLayout
  refine ⟨fun r => ?_, statusWord_reset, by decide, by decide, by decide⟩
  obtain ⟨dcmdValid, tbValid, done, failed, busy⟩ := statusWord_flags r
  obtain ⟨decErr, encErr, reason, hs⟩ := statusWord_codes r
  exact ⟨dcmdValid, tbValid, decErr, encErr, reason, hs, done, failed, busy⟩

end Sys2Proof.Machine
end

section
/-! PROOFS. The reserved codes of `op` (spec/30_encoding.md R61). Whether an operation is refused beside it reaches
only `op_rej` of a state-machine step, so the step of a refused operation is NOP's step with `op_rej` driven. -/

namespace Sys2Proof.Machine

theorem awaitStep_true_eq_withRejection (s : State) : awaitStep true s = withRejection (awaitStep false s) := by
  unfold awaitStep
  cases s.rx with
  | cons b rest => rfl
  | nil => cases s.pins.tick <;> cases paramsValid s.cfg <;> rfl

theorem writePhase_true_eq_withRejection (s : State) : writePhase true s = withRejection (writePhase false s) := by
  unfold writePhase
  cases txAnswer s.pins <;> rfl

theorem flushPhase_true_eq_withRejection (s : State) : flushPhase true s = withRejection (flushPhase false s) := by
  unfold flushPhase
  cases flushAnswer s.pins <;> rfl

theorem xmitStep_true_eq_withRejection (s : State) : xmitStep true s = withRejection (xmitStep false s) := by
  unfold xmitStep
  split
  · exact writePhase_true_eq_withRejection s
  · exact flushPhase_true_eq_withRejection s

/-- Where two operations differ only by a driven `op_rej`, so do the host steps that dispatch them (R120, R121). -/
theorem hostStep_true_eq_withRejection {act act' : State → Result} {s : State}
    (h : act s = withRejection (act' s)) : hostStep true act s = withRejection (hostStep false act' s) := by
  unfold hostStep
  cases s.regs.hs with
  | await => exact awaitStep_true_eq_withRejection s
  | xmit => exact xmitStep_true_eq_withRejection s
  | idle | complete | failed => exact h

theorem execReserved_eq_withRejection (s : State) : execReserved s = withRejection (execNop s) :=
  hostStep_true_eq_withRejection (act := refuseOp) (act' := quietStep) rfl

/-- A host step drives `op_ack` only where its operation does: the state machine never acknowledges (R23). -/
theorem hostStep_opAck_eq_false {rej : Bool} {act : State → Result} {s t : State}
    (hact : act s = .next t → t.out.opAck = false) (h : hostStep rej act s = .next t) : t.out.opAck = false := by
  apply hostStep_rule (fun u => u.out.opAck = false) rej act s t h
  case op => exact fun _ => hact
  all_goals intros; rfl

theorem execNop_opAck_eq_false {s t : State} (h : execNop s = .next t) : t.out.opAck = false := by
  refine hostStep_opAck_eq_false (fun hq => ?_) h
  cases hq
  rfl

theorem decodeHop_reserved {p : HostPorts} (h : p.op = 5 ∨ p.op = 6 ∨ p.op = 7) :
    decodeHop p = .error (.reservedOp p.op) := by
  unfold decodeHop
  rcases h with h | h | h <;> rw [h] <;> rfl

theorem step_reserved {s : State} {p : HostPorts} (hword : s.pins.word = .hop p)
    (hop : p.op = 5 ∨ p.op = 6 ∨ p.op = 7) (hrst : s.pins.rst = false) : step s = finish (execReserved s) := by
  have hfetch : fetch s = .error (.reservedOp p.op) := by
    rw [fetch, hword]
    exact decodeHop_reserved hop
  simp [step, hrst, hfetch, execRejected]

/-- Settles O6: the step of a reserved code is that of NOP with `op_rej` driven, and NOP acknowledges nothing. -/
theorem reservedOpsRefused : Obligations.ReservedOpsRefused := by
  unfold Obligations.ReservedOpsRefused
  intro s p hword hop hrst
  refine ⟨?_, fun t h => execNop_opAck_eq_false h⟩
  rw [step_reserved hword hop hrst, execReserved_eq_withRejection]
  rfl

end Sys2Proof.Machine
end

section
/-! PROOFS. The assembly of the DeviceByte (spec/30_encoding.md R65): the action stands in bits 7:6, the group in bits
4:3 and a channel from 1 to 8, less 1, in bits 2:0. The three terms have no bit in common, so their OR is their sum, and
it is the concatenation with a 0 in bit 5. -/

namespace Sys2Proof.Machine

theorem groupBase_eq_shiftLeft (grp : BitVec 2) : groupBase grp = grp.setWidth 8 <<< 3 := by
  revert grp
  decide

theorem actionFlag_eq_shiftLeft (act : BitVec 2) : actionFlag act = act.setWidth 8 <<< 6 := by
  revert act
  decide

theorem getLsbD_groupBase (grp : BitVec 2) (i : Nat) :
    (groupBase grp).getLsbD i = (decide (3 ≤ i ∧ i < 5) && grp.getLsbD (i - 3)) := by
  have hwidth := grp.getLsbD_of_ge (i - 3)
  simp only [groupBase_eq_shiftLeft, BitVec.getLsbD_shiftLeft, BitVec.getLsbD_setWidth]
  grind

theorem getLsbD_actionFlag (act : BitVec 2) (i : Nat) :
    (actionFlag act).getLsbD i = (decide (6 ≤ i ∧ i < 8) && act.getLsbD (i - 6)) := by
  have hwidth := act.getLsbD_of_ge (i - 6)
  simp only [actionFlag_eq_shiftLeft, BitVec.getLsbD_shiftLeft, BitVec.getLsbD_setWidth]
  grind

theorem getLsbD_channelTerm (ccc : BitVec 3) (i : Nat) :
    (ccc.setWidth 8).getLsbD i = (decide (i < 3) && ccc.getLsbD i) := by
  have hwidth := ccc.getLsbD_of_ge i
  simp only [BitVec.getLsbD_setWidth]
  grind

/-- A channel from 1 to 8, less 1, is a value of three bits. -/
theorem channel_pred_eq_setWidth {chan : BitVec 4} (h : 1 ≤ chan.toNat ∧ chan.toNat ≤ 8) :
    chan.setWidth 8 - 1 = ((chan - 1).setWidth 3).setWidth 8 := by
  bv_omega

theorem terms_or_eq_add (grp act : BitVec 2) (ccc : BitVec 3) :
    groupBase grp ||| ccc.setWidth 8 ||| actionFlag act = groupBase grp + ccc.setWidth 8 + actionFlag act := by
  have hlow : groupBase grp &&& ccc.setWidth 8 = 0#8 := by
    apply BitVec.eq_of_getLsbD_eq
    intro i _
    simp only [BitVec.getLsbD_and, getLsbD_groupBase, getLsbD_channelTerm, BitVec.getLsbD_zero]
    grind
  have hhigh : (groupBase grp ||| ccc.setWidth 8) &&& actionFlag act = 0#8 := by
    apply BitVec.eq_of_getLsbD_eq
    intro i _
    simp only [BitVec.getLsbD_and, BitVec.getLsbD_or, getLsbD_groupBase, getLsbD_channelTerm, getLsbD_actionFlag,
      BitVec.getLsbD_zero]
    grind
  rw [BitVec.add_eq_or_of_and_eq_zero _ _ hlow, BitVec.add_eq_or_of_and_eq_zero _ _ hhigh]

theorem getLsbD_fieldsDevb (fn g : BitVec 2) (ccc : BitVec 3) (i : Nat) :
    (fieldsDevb fn g ccc).getLsbD i =
      if i < 3 then ccc.getLsbD i else if i < 5 then g.getLsbD (i - 3)
      else if i < 6 then false else fn.getLsbD (i - 6) := by
  have happend : (fieldsDevb fn g ccc).getLsbD i = (fn ++ 0#1 ++ g ++ ccc).getLsbD i := rfl
  rw [happend]
  simp only [BitVec.getLsbD_append]
  grind

theorem terms_or_eq_fieldsDevb (grp act : BitVec 2) (ccc : BitVec 3) :
    groupBase grp ||| ccc.setWidth 8 ||| actionFlag act = fieldsDevb act grp ccc := by
  apply BitVec.eq_of_getLsbD_eq
  intro i _
  simp only [BitVec.getLsbD_or, getLsbD_groupBase, getLsbD_channelTerm, getLsbD_actionFlag, getLsbD_fieldsDevb]
  grind

/-- The OR form of R65 is R91's, term by term, for every Command, valid or not. -/
theorem devbyte_eq_or (c : Command) :
    devbyte c = groupBase c.grp ||| (c.chan.setWidth 8 - 1) ||| actionFlag c.act := by
  rw [groupBase_eq_shiftLeft, actionFlag_eq_shiftLeft, devbyte, BitVec.or_assoc, BitVec.or_comm]

/-- Settles O8: for a valid Command the channel term has three bits, so the OR form is the sum and the concatenation;
the terms' values and the two examples are closed. -/
theorem deviceByteAssembly : Obligations.DeviceByteAssembly := by
  unfold Obligations.DeviceByteAssembly
  refine ⟨fun c hgood => ?_, rfl, rfl, rfl, rfl, rfl, rfl, rfl⟩
  obtain ⟨-, hchan, -⟩ := hgood
  refine ⟨devbyte_eq_or c, ?_, ?_⟩ <;> rw [devbyte_eq_or, channel_pred_eq_setWidth hchan]
  · exact terms_or_eq_add c.grp c.act _
  · exact terms_or_eq_fieldsDevb c.grp c.act _

end Sys2Proof.Machine
end

section
/-! PROOFS. The EncodeError mask (spec/40_codec.md R93): three terms of one bit each, so each bit of the mask is the
condition of its own term, and the mask is 0 when no condition holds. -/

namespace Sys2Proof.Machine

/-- The channel's two exclusions in the words of R93: it is 0, or it is above 8. -/
theorem channel_bad_iff (chan : BitVec 4) : chan = 0 ∨ 9 ≤ chan ↔ chan = 0 ∨ 9 ≤ chan.toNat := by
  rw [BitVec.le_def]
  rfl

theorem getLsbD_ite_zero {w : Nat} (p : Prop) [Decidable p] (mask : BitVec w) (i : Nat) :
    (if p then mask else 0).getLsbD i = (decide p && mask.getLsbD i) := by
  by_cases hp : p <;> simp [hp]

/-- Bit `i` of the mask: the masks 1, 2 and 4 pick out the group's, the channel's and the action's condition. -/
theorem getLsbD_encCheck (c : Command) (i : Nat) :
    (encCheck c).getLsbD i =
      ((decide (c.grp = 3) && (1#3).getLsbD i || decide (c.chan = 0 ∨ 9 ≤ c.chan) && (2#3).getLsbD i) ||
        decide (c.act = 0b00 ∨ c.act = 0b11) && (4#3).getLsbD i) := by
  simp only [encCheck, BitVec.getLsbD_or, getLsbD_ite_zero]
  rfl

theorem encCheck_groupBit (c : Command) : (encCheck c).getLsbD 0 = true ↔ c.grp = 3 := by
  rw [getLsbD_encCheck]
  simp

theorem encCheck_channelBit (c : Command) :
    (encCheck c).getLsbD 1 = true ↔ c.chan = 0 ∨ 9 ≤ c.chan.toNat := by
  rw [getLsbD_encCheck, ← channel_bad_iff]
  simp

theorem encCheck_actionBit (c : Command) : (encCheck c).getLsbD 2 = true ↔ c.act = 0b00 ∨ c.act = 0b11 := by
  rw [getLsbD_encCheck]
  simp

theorem group_good_iff (grp : BitVec 2) : grp = 0 ∨ grp = 1 ∨ grp = 2 ↔ grp ≠ 3 := by
  revert grp
  decide

theorem channel_good_iff (chan : BitVec 4) :
    1 ≤ chan.toNat ∧ chan.toNat ≤ 8 ↔ chan ≠ 0 ∧ ¬ 9 ≤ chan := by
  bv_omega

theorem action_good_iff (act : BitVec 2) : act = 0b01 ∨ act = 0b10 ↔ act ≠ 0b00 ∧ act ≠ 0b11 := by
  revert act
  decide

/-- The mask is 0 exactly when all three operands are good. -/
theorem encCheck_eq_zero_iff_goodOperands (c : Command) : encCheck c = 0 ↔ GoodOperands c := by
  rw [encCheck_eq_zero_iff, GoodOperands, group_good_iff, channel_good_iff, action_good_iff, and_assoc]

/-- 3 groups, 8 channels and 2 actions: 48 of the 256 packed Commands have the mask 0. -/
theorem length_filter_encCheck_eq_zero :
    ((List.range 256).filter fun n => encCheck (unpackCommand (BitVec.ofNat 8 n)) == 0).length = 48 := by
  decide

/-- Settles O7: the three bits, the mask 0 for the good operands alone, and the count of those, which is closed. -/
theorem encodeErrorMask : Obligations.EncodeErrorMask := by
  unfold Obligations.EncodeErrorMask
  exact ⟨fun c => ⟨encCheck_groupBit c, encCheck_channelBit c, encCheck_actionBit c,
    encCheck_eq_zero_iff_goodOperands c⟩, length_filter_encCheck_eq_zero⟩

end Sys2Proof.Machine
end

section
/-! PROOFS. The order of the checks of `decode` (spec/40_codec.md R98). The code of a frame is chosen by a chain of
checks and the result follows the code; said of the cells of a frame first, then of a list of twelve bytes, which are
the cells of the frame made of them. -/

namespace Sys2Proof.Machine

/-- The frame ports carry a sequence of twelve bytes whole. -/
theorem elements_frameOfBytes {s : List Byte} (h : s.length = 12) : Frame.elements (frameOfBytes s) = s := by
  match s, h with
  | [_, _, _, _, _, _, _, _, _, _, _, _], _ => rfl

theorem ckOk_eq_false_iff (f : Frame) : ckOk f = false ↔ sum8 ((Frame.elements f).take 11) ≠ 0 :=
  beq_eq_false_iff_ne

/-- The six payload cells, compared one by one or as a list. -/
theorem payload_bad_iff (f : Frame) :
    f.b4 ≠ Config.pay0 ∨ f.b5 ≠ Config.pay1 ∨ f.b6 ≠ Config.pay2 ∨ f.b7 ≠ Config.pay3 ∨ f.b8 ≠ Config.pay4 ∨
        f.b9 ≠ Config.pay5 ↔
      ((Frame.elements f).drop 4).take 6 ≠ [0x01, 0x00, 0x00, 0x00, 0x00, 0x00] := by
  simp only [Frame.elements, List.drop_succ_cons, List.drop_zero, List.take_succ_cons, List.take_zero, ne_eq,
    List.cons.injEq, and_true, not_and_or]
  rfl

/-- The result that a code stands for: the Command of the DeviceByte cell when every check has passed (R98). -/
def resultOfCode (f : Frame) (code : DecErr) : DecResult :=
  if code = .ok then .command (cmdOfDevbyte f.b3) else .decodeError code

theorem codecDecode_eq_resultOfCode (len : Nat) (f : Frame) :
    codecDecode len f = resultOfCode f (decCheck len f) := rfl

/-- The checks of R98 on the cells of a frame: the chain that chooses the code, with the result put in each branch. -/
theorem codecDecode_checks (len : Nat) (f : Frame) : codecDecode len f =
    if len ≠ 12 then .decodeError .length
    else if f.b0 ≠ 0x55 ∨ f.b1 ≠ 0x16 ∨ f.b2 ≠ 0x00 then .decodeError .header
    else if f.b11 ≠ 0xAA then .decodeError .term
    else if sum8 ((Frame.elements f).take 11) ≠ 0 then .decodeError .checksum
    else if ((Frame.elements f).drop 4).take 6 ≠ [0x01, 0x00, 0x00, 0x00, 0x00, 0x00] then .decodeError .payload
    else if validDevbyte f.b3 = false then .decodeError .devbyte
    else .command (cmdOfDevbyte f.b3) := by
  simp only [codecDecode_eq_resultOfCode, decCheck, frameCheck, apply_ite (resultOfCode f), ckOk_eq_false_iff,
    payload_bad_iff]
  rfl

/-- Settles O12: the length is checked first, and past that check the cells are the bytes of the sequence. -/
theorem decodeChecksInOrder : Obligations.DecodeChecksInOrder := by
  unfold Obligations.DecodeChecksInOrder
  intro s
  rw [codecDecodeSeq, codecDecode_checks]
  refine ite_congr rfl (fun _ => rfl) fun hlen => ?_
  rw [elements_frameOfBytes (not_not.mp hlen)]
  rfl

end Sys2Proof.Machine
end

section
/-! PROOFS. The checksum formula (spec/41_checksum.md R112): the accumulator holds the sum modulo 256, and the checksum
is its two's complement. The nine constant bytes of a telegram sum to 0x6C, so that its ten-byte sum is 0 where the
DeviceByte is 0x94; a DeviceByte determines its Command (R99), so one Command has it. -/

namespace Sys2Proof.Machine

theorem toNat_sum8 (q : List Byte) : (sum8 q).toNat = (q.map BitVec.toNat).sum % 256 := by
  induction q with
  | nil => rfl
  | cons b q ih => rw [sum8_cons, BitVec.toNat_add, ih, List.map_cons, List.sum_cons, Nat.add_mod_mod]

/-- `cksum_eq_neg` as a negation, the form the library's lemmas speak of. -/
theorem cksum_eq_neg_sum8 (p : List Byte) : cksum p = -sum8 p := BitVec.zero_sub _

theorem toNat_cksum (p : List Byte) : (cksum p).toNat = (256 - (p.map BitVec.toNat).sum % 256) % 256 := by
  rw [cksum_eq_neg_sum8, BitVec.toNat_neg, toNat_sum8]

theorem cksum_eq_xor_add_one (p : List Byte) : cksum p = (sum8 p ^^^ 0xFF) + 1 := by
  have hinvert : sum8 p ^^^ 0xFF = ~~~sum8 p := BitVec.xor_allOnes
  rw [cksum_eq_neg_sum8, hinvert]
  exact BitVec.neg_eq_not_add _

theorem extractLsb'_fieldsDevb_function (fn g : BitVec 2) (ccc : BitVec 3) :
    (fieldsDevb fn g ccc).extractLsb' 6 2 = fn := by
  simp (disch := decide) only [fieldsDevb, BitVec.extractLsb'_append_eq_of_le, Nat.reduceSub,
    BitVec.extractLsb'_eq_self]

theorem extractLsb'_fieldsDevb_group (fn g : BitVec 2) (ccc : BitVec 3) :
    (fieldsDevb fn g ccc).extractLsb' 3 2 = g := by
  simp (disch := decide) only [fieldsDevb, BitVec.extractLsb'_append_eq_of_le, Nat.reduceSub,
    BitVec.extractLsb'_append_eq_right]

theorem extractLsb'_fieldsDevb_channel (fn g : BitVec 2) (ccc : BitVec 3) :
    (fieldsDevb fn g ccc).extractLsb' 0 3 = ccc :=
  BitVec.extractLsb'_append_eq_right

theorem channel_eq_pred_add_one {chan : BitVec 4} (h : 1 ≤ chan.toNat ∧ chan.toNat ≤ 8) :
    ((chan - 1).setWidth 3).setWidth 4 + 1 = chan := by
  bv_omega

/-- The fields of a valid Command's DeviceByte are its operands, the channel less 1 (R99). -/
theorem cmdOfDevbyte_devbyte {c : Command} (h : GoodOperands c) : cmdOfDevbyte (devbyte c) = c := by
  obtain ⟨-, hchan, -⟩ := h
  rw [devbyte_eq_or, channel_pred_eq_setWidth hchan, terms_or_eq_fieldsDevb, cmdOfDevbyte,
    extractLsb'_fieldsDevb_function, extractLsb'_fieldsDevb_group, extractLsb'_fieldsDevb_channel,
    channel_eq_pred_add_one hchan]

theorem devbyte_inj {c c' : Command} (h : GoodOperands c) (h' : GoodOperands c') :
    devbyte c = devbyte c' ↔ c = c' := by
  refine ⟨fun heq => ?_, fun heq => heq ▸ rfl⟩
  rw [← cmdOfDevbyte_devbyte h, heq, cmdOfDevbyte_devbyte h']

theorem sum8_framePart_eq_zero_iff (c : Command) : sum8 (framePart c) = 0 ↔ devbyte c = 0x94 := by
  rw [sum8_framePart]
  bv_omega

theorem goodOperands_c5off : GoodOperands ⟨2, 5, 0b10⟩ := by
  unfold GoodOperands
  decide

theorem devbyte_c5off : devbyte ⟨2, 5, 0b10⟩ = 0x94 := rfl

/-- Settles O15: the checksum is the two's complement of the sum, and the ten-byte sum is 0 for the Command that has
DeviceByte 0x94. -/
theorem checksumFormula : Obligations.ChecksumFormula := by
  unfold Obligations.ChecksumFormula
  refine ⟨fun p => ⟨toNat_cksum p, cksum_eq_neg p, cksum_eq_xor_add_one p⟩, fun c hgood => ?_, devbyte_c5off, rfl⟩
  rw [sum8_framePart_eq_zero_iff, ← devbyte_c5off, devbyte_inj hgood goodOperands_c5off]

end Sys2Proof.Machine
end

section
/-! PROOFS. The handshake's host operations and its write phase (spec/42_handshake.md R121, R123, R134, R135, R138):
which step an operation makes is told by `HS` alone, so each statement is one dispatch and one shared operation. -/

namespace Sys2Proof.Machine

theorem exec_nop_eq_hostStep (s : State) : exec .nop s = hostStep false quietStep s := rfl

theorem exec_clr_eq_hostStep (s : State) : exec .clr s = hostStep true takeClr s := rfl

theorem exec_send_eq_hostStep (c : Command) (s : State) : exec (.send c) s = hostStep true (evalSend c) s := rfl

/-- While busy no operation is evaluated, so the steps of any two differ by the refusal alone (R121). -/
theorem hostStep_true_eq_withRejection_of_busy (act act' : State → Result) {s : State} (h : Busy s) :
    hostStep true act s = withRejection (hostStep false act' s) := by
  unfold Busy at h
  unfold hostStep
  cases hs : s.regs.hs with
  | await => exact awaitStep_true_eq_withRejection s
  | xmit => exact xmitStep_true_eq_withRejection s
  | idle | complete | failed => simp [hs] at h

/-- The stalled offer of INQ: of a valid Command's four answers the port's two low levels leave this one (R123). -/
theorem evalSend_stall {c : Command} {s : State} (hgood : GoodOperands c) (herr : s.pins.txErr = false)
    (hready : s.pins.txReady = false) :
    evalSend c s = .next { s with out := { stateOutputs s.regs with txValid := true, txData := Config.inq } } := by
  have hmask : encCheck c = 0 := (encCheck_eq_zero_iff_goodOperands c).mpr hgood
  rcases evalSend_cases c s with ⟨hbad, -⟩ | ⟨-, herr', -⟩ | ⟨-, -, hready', -⟩ | ⟨-, -, -, hstall⟩
  · exact absurd hmask hbad
  · exact absurd (herr.symm.trans herr') Bool.false_ne_true
  · exact absurd (hready.symm.trans hready') Bool.false_ne_true
  · exact hstall

/-- Settles O24: SEND is evaluated in a state that is not busy, and the port stalls the offer. -/
theorem sendWaitsForPort : Obligations.SendWaitsForPort := by
  unfold Obligations.SendWaitsForPort
  intro c s hnotBusy hgood herr hready
  rw [exec_send_eq_hostStep, hostStep_notBusy true (evalSend c) s hnotBusy, evalSend_stall hgood herr hready]
  rfl

theorem decodeHop_clr {p : HostPorts} (h : p.op = 0b100) : decodeHop p = .ok .clr := by
  unfold decodeHop
  rw [h]
  rfl

/-- CLR in a state that is not busy is taken (R138). -/
theorem exec_clr_of_notBusy {s : State} (h : NotBusy s) :
    exec .clr s = .next { s with regs := clearInstance s.regs, out := Acked s } :=
  hostStep_notBusy true takeClr s h

/-- R28 items 2 and 3: an IDLE state holds NONE and index 0, the values that CLR writes. -/
theorem clearInstance_eq_self_of_idle {r : Regs} (hreason : ReasonInv r) (hindex : IndexInv r) (hidle : r.hs = .idle) :
    clearInstance r = r := by
  have hnone : r.reason = .none := by
    by_contra hne
    cases hidle.symm.trans (hreason.mp hne)
  have hzero : r.txidx = 0 := by
    obtain ⟨-, -, hstart, -⟩ := hindex
    exact hstart (.inr hidle)
  rw [clearInstance, ← hidle, ← hnone, ← hzero]

/-- Settles O26: the code, the refusal while busy, and what a taken CLR writes, which an IDLE state already holds. -/
theorem clrDestroysInstance : Obligations.ClrDestroysInstance := by
  unfold Obligations.ClrDestroysInstance
  refine ⟨fun h hop => decodeHop_clr hop, fun s hbusy => ?_, fun s hinv hidle => ?_, fun s h => exec_clr_of_notBusy h⟩
  · rw [exec_clr_eq_hostStep, exec_nop_eq_hostStep]
    exact hostStep_true_eq_withRejection_of_busy takeClr quietStep hbusy
  · obtain ⟨hreason, hindex, -⟩ := hinv
    have hnotBusy : NotBusy s := by rw [NotBusy, hidle, isBusy_idle]
    rw [exec_clr_of_notBusy hnotBusy, clearInstance_eq_self_of_idle hreason hindex hidle]

theorem hostStep_xmit (rej : Bool) (act : State → Result) {s : State} (h : s.regs.hs = .xmit) :
    hostStep rej act s = xmitStep rej s := by
  rw [hostStep, h]

/-- The cell at `TXIDX`, read off the list of the buffer's elements (R8, R134). -/
theorem tbCell_eq_of_getElem? {f : Frame} {i : BitVec 4} {b : Byte} (h : (Frame.elements f)[i.toNat]? = some b) :
    tbCell f i = b := by
  rw [tbCell, tbRead, h, Option.getD_some]

/-- The write phase by the port's two levels: an error beats a ready (R128, R134, R135). -/
theorem writePhase_eq_ite (rej : Bool) (s : State) :
    writePhase rej s =
      if s.pins.txErr = true then .next { s with
        regs := enterFailed .writeErr s.regs
        out := { BusyOutputs rej s with txValid := true, txData := tbCell s.regs.tb s.regs.txidx } }
      else if s.pins.txReady = true then .next { s with
        regs := { s.regs with txidx := s.regs.txidx + 1 }
        tx := s.tx ++ [tbCell s.regs.tb s.regs.txidx]
        out := { BusyOutputs rej s with txValid := true, txData := tbCell s.regs.tb s.regs.txidx } }
      else .next { s with
        out := { BusyOutputs rej s with txValid := true, txData := tbCell s.regs.tb s.regs.txidx } } := by
  unfold writePhase txAnswer
  cases s.pins.txErr with
  | true => rfl
  | false => cases s.pins.txReady <;> rfl

/-- Settles O39: NOP in XMIT below index 12 is the write phase, and the byte it offers is the cell at `TXIDX`. -/
theorem xmitWritePhase : Obligations.XmitWritePhase := by
  unfold Obligations.XmitWritePhase
  intro s b hxmit hindex hcell
  have hwrite : xmitStep false s = writePhase false s := if_pos hindex
  rw [exec_nop_eq_hostStep, hostStep_xmit false quietStep hxmit, hwrite, writePhase_eq_ite, tbCell_eq_of_getElem? hcell]
  rfl

end Sys2Proof.Machine
end

section
/-! PROOFS. The words at the ports (spec/30_encoding.md R60, R66, R67, R68): for each format, what is accepted and as
which instruction. Byte 3 of a telegram is the concatenation of its fields, so taking the fields out of a matching byte
and putting them together again gives the byte back. -/

namespace Sys2Proof.Machine

theorem extractLsb'_fieldsDevb_high (fn g : BitVec 2) (ccc : BitVec 3) :
    (fieldsDevb fn g ccc).extractLsb' 5 3 = fn ++ 0#1 := by
  simp (disch := decide) only [fieldsDevb, BitVec.extractLsb'_append_eq_of_le, Nat.reduceSub,
    BitVec.extractLsb'_eq_self]

theorem append_extractLsb'_byte (d : Byte) :
    d.extractLsb' 5 3 ++ groupField d ++ channelField d = d := by
  have hupper : d.extractLsb' 5 3 ++ groupField d = d.extractLsb' 3 5 :=
    BitVec.extractLsb'_append_extractLsb'_eq_extractLsb' rfl
  have hwhole : d.extractLsb' 3 5 ++ channelField d = d.extractLsb' 0 8 :=
    BitVec.extractLsb'_append_extractLsb'_eq_extractLsb' rfl
  rw [hupper, hwhole, BitVec.extractLsb'_eq_self]

/-- A byte whose bits 7:5 are a pattern's is put together from its own fields. -/
theorem fieldsDevb_fields {d : Byte} {fn : BitVec 2} (h : d.extractLsb' 5 3 = fn ++ 0#1) :
    fieldsDevb fn (groupField d) (channelField d) = d := by
  rw [fieldsDevb, ← h]
  exact append_extractLsb'_byte d

theorem telegramFixed_iff (f : Frame) :
    telegramFixed f = true ↔ f = ⟨0x55, 0x16, 0x00, f.b3, 0x01, 0x00, 0x00, 0x00, 0x00, 0x00, f.b10, 0xAA⟩ := by
  obtain ⟨⟩ := f
  simp [telegramFixed, and_assoc]

/-- Frames of a pattern: the fixed cells, and bits 7:5 of byte 3. -/
theorem matches_pattern_iff (f : Frame) (fn : BitVec 2) :
    (telegramFixed f && f.b3.extractLsb' 5 3 == fn ++ 0#1) = true ↔
      f = telegramFrame fn (groupField f.b3) (channelField f.b3) f.b10 := by
  rw [Bool.and_eq_true, beq_iff_eq]
  constructor
  · rintro ⟨hfixed, hhigh⟩
    have hbyte : fn ++ 0#1 ++ groupField f.b3 ++ channelField f.b3 = f.b3 := fieldsDevb_fields hhigh
    rw [telegramFrame, hbyte]
    exact (telegramFixed_iff f).mp hfixed
  · intro h
    rw [h]
    exact ⟨rfl, extractLsb'_fieldsDevb_high fn _ _⟩

theorem decodeTgm_eq_ite (f : Frame) : decodeTgm f =
    if f = telegramFrame 0b01 (groupField f.b3) (channelField f.b3) f.b10 then
      .ok (.tgmOn (groupField f.b3) (channelField f.b3) f.b10)
    else if f = telegramFrame 0b10 (groupField f.b3) (channelField f.b3) f.b10 then
      .ok (.tgmOff (groupField f.b3) (channelField f.b3) f.b10)
    else .error (.notTelegram f) := by
  simp only [← matches_pattern_iff]
  rfl

theorem fields_of_telegramFrame {f : Frame} {fn g : BitVec 2} {ccc : BitVec 3} {k : Byte}
    (h : f = telegramFrame fn g ccc k) : groupField f.b3 = g ∧ channelField f.b3 = ccc ∧ f.b10 = k := by
  rw [h]
  exact ⟨extractLsb'_fieldsDevb_group fn g ccc, extractLsb'_fieldsDevb_channel fn g ccc, rfl⟩

theorem telegramFrame_function_inj {fn fn' g g' : BitVec 2} {ccc ccc' : BitVec 3} {k k' : Byte}
    (h : telegramFrame fn g ccc k = telegramFrame fn' g' ccc' k') : fn = fn' := by
  have hbyte : fieldsDevb fn g ccc = fieldsDevb fn' g' ccc' := congrArg Frame.b3 h
  rw [← extractLsb'_fieldsDevb_function fn g ccc, hbyte, extractLsb'_fieldsDevb_function]

theorem decodeTgm_on (g : BitVec 2) (ccc : BitVec 3) (k : Byte) :
    decodeTgm (telegramFrame 0b01 g ccc k) = .ok (.tgmOn g ccc k) := by
  obtain ⟨hg, hc, hk⟩ := fields_of_telegramFrame (Eq.refl (telegramFrame 0b01 g ccc k))
  rw [decodeTgm_eq_ite, hg, hc, hk, if_pos rfl]

theorem decodeTgm_off (g : BitVec 2) (ccc : BitVec 3) (k : Byte) :
    decodeTgm (telegramFrame 0b10 g ccc k) = .ok (.tgmOff g ccc k) := by
  obtain ⟨hg, hc, hk⟩ := fields_of_telegramFrame (Eq.refl (telegramFrame 0b10 g ccc k))
  have hother : telegramFrame 0b10 g ccc k ≠ telegramFrame 0b01 g ccc k := fun h =>
    absurd (telegramFrame_function_inj h) (by decide)
  rw [decodeTgm_eq_ite, hg, hc, hk, if_neg hother, if_pos rfl]

/-- Settles O1: every telegram decodes to its fields, well formed or not; the other words by evaluation. -/
theorem decodeEncodeRoundTrip : Obligations.DecodeEncodeRoundTrip := by
  unfold Obligations.DecodeEncodeRoundTrip
  intro i _
  cases i with
  | tgmOn g ccc k => exact decodeTgm_on g ccc k
  | tgmOff g ccc k => exact decodeTgm_off g ccc k
  | _ => rfl

/-- What the decoder accepts as a telegram: the two patterns and nothing else (R67). -/
theorem decodeTgm_eq_ok_iff (f : Frame) (i : Instr) :
    decodeTgm f = .ok i ↔ ∃ g ccc k, (i = .tgmOn g ccc k ∧ f = telegramFrame 0b01 g ccc k) ∨
      (i = .tgmOff g ccc k ∧ f = telegramFrame 0b10 g ccc k) := by
  constructor
  · intro h
    rw [decodeTgm_eq_ite] at h
    refine ⟨groupField f.b3, channelField f.b3, f.b10, ?_⟩
    split at h
    next hon => exact .inl ⟨(Except.ok.inj h).symm, hon⟩
    next =>
      split at h
      next hoff => exact .inr ⟨(Except.ok.inj h).symm, hoff⟩
      next => cases h
  · rintro ⟨g, ccc, k, ⟨rfl, rfl⟩ | ⟨rfl, rfl⟩⟩
    · exact decodeTgm_on g ccc k
    · exact decodeTgm_off g ccc k

/-- A frame of neither pattern is refused (R67). -/
theorem decodeTgm_eq_error {f : Frame}
    (h : ∀ g ccc k, f ≠ telegramFrame 0b01 g ccc k ∧ f ≠ telegramFrame 0b10 g ccc k) :
    decodeTgm f = .error (.notTelegram f) := by
  obtain ⟨hon, hoff⟩ := h (groupField f.b3) (channelField f.b3) f.b10
  rw [decodeTgm_eq_ite, if_neg hon, if_neg hoff]

theorem encode_of_decodeTgm {f : Frame} {i : Instr} (h : decodeTgm f = .ok i) : encode i = .tgm f := by
  obtain ⟨g, ccc, k, ⟨rfl, rfl⟩ | ⟨rfl, rfl⟩⟩ := (decodeTgm_eq_ok_iff f i).mp h <;> rfl

theorem encode_of_decodeCtrl {b : Byte} {i : Instr} (h : decodeCtrl b = .ok i) : encode i = .ctrl b := by
  rcases decodeCtrl_cases b with ⟨rfl, e⟩ | ⟨rfl, e⟩ | e <;> rw [e] at h <;> cases h <;> rfl

/-- Each of the 48 rows gives its own byte (R66). -/
theorem encode_of_decodeDevb {d : Byte} {i : Instr} (h : decodeDevb d = .ok i) : encode i = .devb d := by
  unfold decodeDevb at h
  split at h <;> cases h
  all_goals rename_i hd; exact congrArg Presented.devb (BitVec.eq_of_toNat_eq hd.symm)

theorem decodeHop_nop {p : HostPorts} (h : p.op = 0b000) : decodeHop p = .ok .nop := by
  unfold decodeHop; rw [h]; rfl

theorem decodeHop_enc {p : HostPorts} (h : p.op = 0b001) : decodeHop p = .ok (.enc p.cmd) := by
  unfold decodeHop; rw [h]; rfl

theorem decodeHop_dec {p : HostPorts} (h : p.op = 0b010) : decodeHop p = .ok (.dec p.decLen p.decFrame) := by
  unfold decodeHop; rw [h]; rfl

theorem decodeHop_send {p : HostPorts} (h : p.op = 0b011) : decodeHop p = .ok (.send p.cmd) := by
  unfold decodeHop; rw [h]; rfl

/-- The eight codes of `op`: the five operations and the reserved ones (R60, R61). -/
theorem op_cases (op : BitVec 3) :
    op = 0b000 ∨ op = 0b001 ∨ op = 0b010 ∨ op = 0b011 ∨ op = 0b100 ∨ (op = 5 ∨ op = 6 ∨ op = 7) := by
  revert op
  decide

/-- The word of an accepted host operation, but for the operand ports it does not read (R53, R60). -/
theorem encode_of_decodeHop {h : HostPorts} {i : Instr} (hok : decodeHop h = .ok i) :
    ∃ h', encode i = .hop h' ∧ h'.op = h.op ∧ (h.op = 1 ∨ h.op = 3 → h'.cmd = h.cmd) ∧
      (h.op = 2 → h'.decLen = h.decLen ∧ h'.decFrame = h.decFrame) := by
  rcases op_cases h.op with hop | hop | hop | hop | hop | hop
  · cases (decodeHop_nop hop).symm.trans hok
    exact ⟨_, rfl, hop.symm, by simp [hop], by simp [hop]⟩
  · cases (decodeHop_enc hop).symm.trans hok
    exact ⟨_, rfl, hop.symm, fun _ => rfl, by simp [hop]⟩
  · cases (decodeHop_dec hop).symm.trans hok
    exact ⟨_, rfl, hop.symm, by simp [hop], fun _ => ⟨rfl, rfl⟩⟩
  · cases (decodeHop_send hop).symm.trans hok
    exact ⟨_, rfl, hop.symm, fun _ => rfl, by simp [hop]⟩
  · cases (decodeHop_clr hop).symm.trans hok
    exact ⟨_, rfl, hop.symm, by simp [hop], by simp [hop]⟩
  · cases (decodeHop_reserved hop).symm.trans hok

/-- Settles O2, format by format. -/
theorem acceptedWordIsItsEncoding : Obligations.AcceptedWordIsItsEncoding := by
  unfold Obligations.AcceptedWordIsItsEncoding
  exact ⟨fun _ _ h => encode_of_decodeCtrl h, fun _ _ h => encode_of_decodeTgm h,
    fun _ _ h => encode_of_decodeDevb h, fun _ _ h => encode_of_decodeHop h⟩

/-- Settles O3: each word is closed and decodes by evaluation. -/
theorem writtenOutWordsDecode : Obligations.WrittenOutWordsDecode := by
  unfold Obligations.WrittenOutWordsDecode
  exact ⟨rfl, rfl, rfl, rfl, rfl, rfl, rfl, rfl, rfl, rfl, rfl⟩

end Sys2Proof.Machine
end

section
/-! PROOFS. The DeviceByte and its Command (spec/40_codec.md R97, R99, spec/30_encoding.md R66): `devbyte` puts the
operands in their fields, `cmd_of_devbyte` takes them out, and the bytes for which this gives operands of their ranges
are the valid ones. -/

namespace Sys2Proof.Machine

theorem devbyte_eq_fieldsDevb {c : Command} (h : GoodOperands c) :
    devbyte c = fieldsDevb c.act c.grp ((c.chan - 1).setWidth 3) := by
  obtain ⟨-, hchan, -⟩ := h
  rw [devbyte_eq_or, channel_pred_eq_setWidth hchan, terms_or_eq_fieldsDevb]

theorem cmdOfDevbyte_fieldsDevb (fn g : BitVec 2) (ccc : BitVec 3) :
    cmdOfDevbyte (fieldsDevb fn g ccc) = ⟨g, ccc.setWidth 4 + 1, fn⟩ := by
  rw [cmdOfDevbyte, extractLsb'_fieldsDevb_function, extractLsb'_fieldsDevb_group, extractLsb'_fieldsDevb_channel]

theorem extractLsb'_fieldsDevb_bit5 (fn g : BitVec 2) (ccc : BitVec 3) :
    (fieldsDevb fn g ccc).extractLsb' 5 1 = 0#1 := by
  simp (disch := decide) only [fieldsDevb, BitVec.extractLsb'_append_eq_of_le, Nat.reduceSub,
    BitVec.extractLsb'_append_eq_right]

theorem validDevbyte_iff (d : Byte) : validDevbyte d = true ↔
    (d.extractLsb' 6 2 = 0b01#2 ∨ d.extractLsb' 6 2 = 0b10#2) ∧ d.extractLsb' 5 1 = 0#1 ∧
      d.extractLsb' 3 2 ≠ 0b11#2 := by
  simp [validDevbyte, and_assoc]

theorem validDevbyte_fieldsDevb_iff (fn g : BitVec 2) (ccc : BitVec 3) :
    validDevbyte (fieldsDevb fn g ccc) = true ↔ (fn = 0b01 ∨ fn = 0b10) ∧ g ≠ 3 := by
  rw [validDevbyte_iff, extractLsb'_fieldsDevb_function, extractLsb'_fieldsDevb_group, extractLsb'_fieldsDevb_bit5]
  simp

theorem toNat_channel_succ (ccc : BitVec 3) : (ccc.setWidth 4 + 1).toNat = ccc.toNat + 1 := by
  bv_omega

theorem goodOperands_fields_iff (fn g : BitVec 2) (ccc : BitVec 3) :
    GoodOperands ⟨g, ccc.setWidth 4 + 1, fn⟩ ↔ (fn = 0b01 ∨ fn = 0b10) ∧ g ≠ 3 := by
  have hchan : 1 ≤ (ccc.setWidth 4 + 1).toNat ∧ (ccc.setWidth 4 + 1).toNat ≤ 8 := by
    rw [toNat_channel_succ]
    bv_omega
  rw [GoodOperands, group_good_iff]
  simp only [hchan, and_self, true_and]
  exact and_comm

/-- A valid DeviceByte is put together from its fields. -/
theorem eq_fieldsDevb_of_validDevbyte {d : Byte} (h : validDevbyte d = true) :
    d = fieldsDevb (d.extractLsb' 6 2) (groupField d) (channelField d) := by
  obtain ⟨-, hbit, -⟩ := (validDevbyte_iff d).mp h
  have hhigh : d.extractLsb' 6 2 ++ d.extractLsb' 5 1 = d.extractLsb' 5 3 :=
    BitVec.extractLsb'_append_extractLsb'_eq_extractLsb' rfl
  rw [hbit] at hhigh
  exact (fieldsDevb_fields hhigh.symm).symm

theorem goodOperands_cmdOfDevbyte {d : Byte} (h : validDevbyte d = true) : GoodOperands (cmdOfDevbyte d) := by
  have hvalid := h
  rw [eq_fieldsDevb_of_validDevbyte h, validDevbyte_fieldsDevb_iff] at hvalid
  exact (goodOperands_fields_iff _ _ (channelField d)).mpr hvalid

theorem channel_succ_pred (ccc : BitVec 3) : (ccc.setWidth 4 + 1 - 1).setWidth 3 = ccc := by
  bv_omega

theorem devbyte_cmdOfDevbyte {d : Byte} (h : validDevbyte d = true) : devbyte (cmdOfDevbyte d) = d := by
  rw [devbyte_eq_fieldsDevb (goodOperands_cmdOfDevbyte h)]
  calc fieldsDevb (d.extractLsb' 6 2) (groupField d) (((channelField d).setWidth 4 + 1 - 1).setWidth 3)
      = fieldsDevb (d.extractLsb' 6 2) (groupField d) (channelField d) := by rw [channel_succ_pred]
    _ = d := (eq_fieldsDevb_of_validDevbyte h).symm

theorem validDevbyte_devbyte {c : Command} (h : GoodOperands c) : validDevbyte (devbyte c) = true := by
  rw [devbyte_eq_fieldsDevb h, validDevbyte_fieldsDevb_iff, ← group_good_iff]
  obtain ⟨hgrp, -, hact⟩ := h
  exact ⟨hact, hgrp⟩

theorem bit5_clear_iff (d : Byte) : d.extractLsb' 5 1 = 0#1 ↔ d.getLsbD 5 = false := by
  have hbit : (d.extractLsb' 5 1).getLsbD 0 = d.getLsbD 5 := by simp
  rw [← hbit]
  generalize d.extractLsb' 5 1 = x
  revert x
  decide

/-- 48 of the 256 byte values are valid. -/
theorem length_filter_validDevbyte :
    ((List.range 256).filter fun n => validDevbyte (BitVec.ofNat 8 n)).length = 48 := by
  decide

/-- Settles O9: a valid byte is the DeviceByte of the Command it decodes to. -/
theorem validDeviceBytesAreTheImage : Obligations.ValidDeviceBytesAreTheImage := by
  unfold Obligations.ValidDeviceBytesAreTheImage
  refine ⟨fun d => ?_, fun d => ⟨fun h => ?_, ?_⟩, length_filter_validDevbyte⟩
  · rw [validDevbyte_iff, bit5_clear_iff]
  · exact ⟨cmdOfDevbyte d, goodOperands_cmdOfDevbyte h, devbyte_cmdOfDevbyte h⟩
  · rintro ⟨c, hgood, rfl⟩
    exact validDevbyte_devbyte hgood

/-- Settles O10: taking the fields out and putting them together undo each other. -/
theorem deviceByteInverse : Obligations.DeviceByteInverse := by
  unfold Obligations.DeviceByteInverse
  exact ⟨fun d _ => ⟨rfl, toNat_channel_succ _, rfl⟩, fun _ h => cmdOfDevbyte_devbyte h,
    fun _ h => ⟨devbyte_cmdOfDevbyte h, goodOperands_cmdOfDevbyte h⟩⟩

/-- The 48 rows are the valid DeviceBytes: a closed fact about the 256 byte values (R66). -/
theorem decodeDevb_isOk (d : Byte) : (decodeDevb d).isOk = validDevbyte d := by
  revert d
  decide

theorem decodeDevb_eq_ok_iff_validDevbyte (d : Byte) : (∃ i, decodeDevb d = .ok i) ↔ validDevbyte d = true := by
  rw [← decodeDevb_isOk]
  cases decodeDevb d <;> simp [Except.isOk, Except.toBool]

/-- Two neighbouring bits read as a field of two. -/
theorem field_eq_iff (d : Byte) (start : Nat) (hi lo : Bool) :
    d.extractLsb' start 2 = BitVec.ofBool hi ++ BitVec.ofBool lo ↔
      d.getLsbD (start + 1) = hi ∧ d.getLsbD start = lo := by
  have hhi : (d.extractLsb' start 2).getLsbD 1 = d.getLsbD (start + 1) := by simp
  have hlo : (d.extractLsb' start 2).getLsbD 0 = d.getLsbD start := by simp
  rw [← hhi, ← hlo]
  generalize d.extractLsb' start 2 = x
  revert x hi lo
  decide

/-- Settles O4: the accepted bytes are the valid DeviceBytes, whose fields are read bit by bit. -/
theorem commandWordBits : Obligations.CommandWordBits := by
  unfold Obligations.CommandWordBits
  intro d
  have hon : d.extractLsb' 6 2 = 0b01#2 ↔ d.getLsbD 7 = false ∧ d.getLsbD 6 = true := field_eq_iff d 6 false true
  have hoff : d.extractLsb' 6 2 = 0b10#2 ↔ d.getLsbD 7 = true ∧ d.getLsbD 6 = false := field_eq_iff d 6 true false
  have hgroup : d.extractLsb' 3 2 = 0b11#2 ↔ d.getLsbD 4 = true ∧ d.getLsbD 3 = true := field_eq_iff d 3 true true
  refine (decodeDevb_eq_ok_iff_validDevbyte d).trans ?_
  rw [validDevbyte_iff, hon, hoff, bit5_clear_iff, ne_eq, hgroup]

end Sys2Proof.Machine
end

section
/-! PROOFS. The checksum (spec/41_checksum.md R111, R113, R115). Adding is commutative, so the sum does not see the order
of the bytes; and writing one cell moves the sum by the difference of the values. -/

namespace Sys2Proof.Machine

theorem sum8_perm {p q : List Byte} (h : p.Perm q) : sum8 p = sum8 q := by
  apply BitVec.eq_of_toNat_eq
  rw [toNat_sum8, toNat_sum8, (h.map BitVec.toNat).sum_eq]

/-- Settles O14: the sum as a number, which a permutation does not change. -/
theorem sumIgnoresOrder : Obligations.SumIgnoresOrder := by
  unfold Obligations.SumIgnoresOrder
  exact ⟨fun q => ⟨toNat_sum8 q, rfl⟩, fun _ _ h => sum8_perm h, rfl⟩

theorem ckOk_iff (f : Frame) : ckOk f = true ↔ sum8 (Frame.beforeTerminator f) = 0 := beq_iff_eq

theorem ckOk_iff_toNat (f : Frame) :
    ckOk f = true ↔ (((Frame.elements f).take 11).map BitVec.toNat).sum % 256 = 0 := by
  rw [ckOk_iff, ← toNat_sum8, ← BitVec.toNat_inj]
  rfl

theorem beforeTerminator_eq_append (f : Frame) : Frame.beforeTerminator f = Frame.beforeChecksum f ++ [f.b10] := rfl

/-- The checksum is the one value of cell 10 that brings the sum to 0 (R113). -/
theorem ckOk_iff_checksum (f : Frame) : ckOk f = true ↔ f.b10 = cksum (Frame.beforeChecksum f) := by
  rw [ckOk_iff, beforeTerminator_eq_append, sum8_append, sum8_cons, sum8_nil, cksum_eq_neg]
  bv_omega

/-- Settles O16: the sum with cell 10 is 0 where cell 10 is the negated sum without it. -/
theorem checksumCellUnique : Obligations.ChecksumCellUnique := by
  unfold Obligations.ChecksumCellUnique
  exact ⟨ckOk_iff_toNat, fun _ _ _ _ _ _ _ _ _ _ _ _ => ckOk_iff_checksum _⟩

/-- Writing a cell moves the sum by the new value less the old one. -/
theorem sum8_set {l : List Byte} {i : Nat} {x : Byte} (h : l[i]? = some x) (b : Byte) :
    sum8 (l.set i b) = sum8 l + (b - x) := by
  induction l generalizing i with
  | nil => simp at h
  | cons a l ih =>
    cases i with
    | zero =>
      obtain rfl : a = x := by simpa using h
      rw [List.set_cons_zero, sum8_cons, sum8_cons]
      bv_omega
    | succ i =>
      rw [List.set_cons_succ, sum8_cons, sum8_cons, ih (by simpa using h), BitVec.add_assoc]

theorem sum8_set_set {l : List Byte} {i j : Nat} {x y : Byte} (hij : i ≠ j) (hi : l[i]? = some x)
    (hj : l[j]? = some y) (a b : Byte) : sum8 ((l.set i a).set j b) = sum8 l + (a - x) + (b - y) := by
  have hj' : (l.set i a)[j]? = some y := by rw [List.getElem?_set_ne hij, hj]
  rw [sum8_set hj' b, sum8_set hi a]

/-- The frame of the next DeviceByte has the checksum less 1 (R115). -/
theorem frameOf_of_devbyte_succ {c c' : Command} (h : devbyte c' = devbyte c + 1) :
    frameOf c' = { frameOf c with b3 := (frameOf c).b3 + 1, b10 := (frameOf c).b10 - 1 } := by
  have hbyte : (frameOf c').b3 = (frameOf c).b3 + 1 := h
  have hcheck : (frameOf c').b10 = (frameOf c).b10 - 1 := by
    rw [frameOf_checksum, frameOf_checksum, h]
    bv_omega
  rw [← hbyte, ← hcheck]
  rfl

/-- Settles O17: each clause is what the written cells add to the sum. -/
theorem checksumDetectsOneChange : Obligations.ChecksumDetectsOneChange := by
  unfold Obligations.ChecksumDetectsOneChange
  refine ⟨fun f i b hok hi hne => ?_, fun f i j x y d _ _ hij hx hy => ?_,
    fun _ _ _ _ h => frameOf_of_devbyte_succ h, fun _ _ => rfl⟩
  · have hcell : (Frame.beforeTerminator f)[i]? = some ((Frame.beforeTerminator f)[i]'hi) :=
      List.getElem?_eq_getElem hi
    rw [sum8_set hcell, (ckOk_iff f).mp hok]
    rw [hcell] at hne
    intro hzero
    exact hne (congrArg some (by bv_omega))
  · rw [sum8_set_set hij hx hy, sum8_set_set hij hx hy, ckOk_iff]
    constructor <;> constructor <;> intro h <;> bv_omega

end Sys2Proof.Machine
end

section
/-! PROOFS. The frame of a Command and the codec's round trip (spec/40_codec.md R92, R95, R98, R101): the sequences that
decode to a Command are the frames of the valid Commands, one for each valid DeviceByte. -/

namespace Sys2Proof.Machine

/-- The frame cell by cell, its checksum by R92's short form. -/
theorem frameOf_eq (c : Command) :
    frameOf c = ⟨0x55, 0x16, 0x00, devbyte c, 0x01, 0x00, 0x00, 0x00, 0x00, 0x00, 0x94 - devbyte c, 0xAA⟩ := by
  rw [← frameOf_checksum]
  rfl

theorem codecEncode_good {c : Command} (h : GoodOperands c) : codecEncode c = .frame (frameOf c) :=
  codecEncode_valid c ((encCheck_eq_zero_iff_goodOperands c).mpr h)

theorem encCheck_ne_zero_of_bad {c : Command} (h : ¬ GoodOperands c) : encCheck c ≠ 0 :=
  fun hzero => h ((encCheck_eq_zero_iff_goodOperands c).mp hzero)

/-- Settles O11, by the mask, which is 0 for the valid operands alone. -/
theorem encodeGivesTheFrame : Obligations.EncodeGivesTheFrame := by
  unfold Obligations.EncodeGivesTheFrame
  refine fun c => ⟨fun hgood => ?_, fun hbad => ?_⟩
  · rw [codecEncode_good hgood, frameOf_eq]
  · have hmask := encCheck_ne_zero_of_bad hbad
    exact ⟨codecEncode_invalid c hmask, hmask⟩

theorem ckOk_frameOf (c : Command) : ckOk (frameOf c) = true := (ckOk_iff_checksum _).mpr rfl

/-- A check and the checks after it: none fails when this one does not and none of the others does (R98). -/
theorem check_eq_ok_iff {p : Prop} [Decidable p] {code rest : DecErr} (h : code ≠ .ok) :
    (if p then code else rest) = .ok ↔ ¬ p ∧ rest = .ok := by
  by_cases hp : p <;> simp [hp, h]

theorem frameCheck_eq_ok_iff (f : Frame) : frameCheck f = .ok ↔
    (f.b0 = Config.hdr0 ∧ f.b1 = Config.hdr1 ∧ f.b2 = Config.hdr2) ∧ f.b11 = Config.term ∧ ckOk f = true ∧
      (f.b4 = Config.pay0 ∧ f.b5 = Config.pay1 ∧ f.b6 = Config.pay2 ∧ f.b7 = Config.pay3 ∧ f.b8 = Config.pay4 ∧
        f.b9 = Config.pay5) ∧ validDevbyte f.b3 = true := by
  simp (disch := decide) only [frameCheck, check_eq_ok_iff, not_or, not_not, Bool.not_eq_false, and_true]

/-- What decodes to a Command (R101): its frame, the operands being valid. -/
theorem codecDecode_eq_command_iff (f : Frame) (c : Command) :
    codecDecode 12 f = .command c ↔ GoodOperands c ∧ f = frameOf c := by
  have hlen : decCheck 12 f = frameCheck f := rfl
  constructor
  · intro h
    obtain ⟨hcode, rfl⟩ := codecDecode_command 12 f c h
    rw [hlen, frameCheck_eq_ok_iff, ckOk_iff_checksum] at hcode
    obtain ⟨⟨h0, h1, h2⟩, h11, h10, ⟨h4, h5, h6, h7, h8, h9⟩, h3⟩ := hcode
    refine ⟨goodOperands_cmdOfDevbyte h3, ?_⟩
    have hpart : Frame.beforeChecksum f = framePart (cmdOfDevbyte f.b3) := by
      simp only [Frame.beforeChecksum, Frame.elements, framePart, devbyte_cmdOfDevbyte h3, h0, h1, h2, h4, h5, h6, h7,
        h8, h9, List.take_succ_cons, List.take_zero]
    rw [frameOf, devbyte_cmdOfDevbyte h3, ← hpart, ← h10, ← h0, ← h1, ← h2, ← h4, ← h5, ← h6, ← h7, ← h8, ← h9, ← h11]
  · rintro ⟨hgood, rfl⟩
    have hcode : decCheck 12 (frameOf c) = .ok :=
      (frameCheck_eq_ok_iff _).mpr ⟨⟨rfl, rfl, rfl⟩, rfl, ckOk_frameOf c, ⟨rfl, rfl, rfl, rfl, rfl, rfl⟩,
        validDevbyte_devbyte hgood⟩
    rw [codecDecode, if_pos hcode]
    exact congrArg DecResult.command (cmdOfDevbyte_devbyte hgood)

theorem length_of_codecDecode_command {len : Nat} {f : Frame} {c : Command} (h : codecDecode len f = .command c) :
    len = 12 := by
  by_contra hne
  rw [codecDecode_checks, if_pos hne] at h
  cases h

theorem codecDecodeSeq_elements (f : Frame) : codecDecodeSeq (Frame.elements f) = codecDecode 12 f := rfl

/-- The same of byte sequences: their length is 12 and they are the elements of a frame. -/
theorem codecDecodeSeq_eq_command_iff (s : List Byte) (c : Command) :
    codecDecodeSeq s = .command c ↔ GoodOperands c ∧ s = Frame.elements (frameOf c) := by
  constructor
  · intro h
    have hlen : s.length = 12 := length_of_codecDecode_command h
    rw [codecDecodeSeq, hlen, codecDecode_eq_command_iff] at h
    obtain ⟨hgood, hframe⟩ := h
    exact ⟨hgood, by rw [← hframe, elements_frameOfBytes hlen]⟩
  · rintro ⟨hgood, rfl⟩
    rw [codecDecodeSeq_elements, codecDecode_eq_command_iff]
    exact ⟨hgood, rfl⟩

/-- The telegram with DeviceByte number `n`. -/
def telegramOfNat (n : Nat) : List Byte := Frame.elements (frameOf (cmdOfDevbyte (BitVec.ofNat 8 n)))

/-- The numbers of the valid DeviceBytes. -/
def validDevbyteNats : Finset Nat := ((List.range 256).filter fun n => validDevbyte (BitVec.ofNat 8 n)).toFinset

theorem mem_validDevbyteNats (n : Nat) : n ∈ validDevbyteNats ↔ n < 256 ∧ validDevbyte (BitVec.ofNat 8 n) = true := by
  rw [validDevbyteNats, List.mem_toFinset, List.mem_filter, List.mem_range]

theorem card_validDevbyteNats : validDevbyteNats.card = 48 :=
  (List.toFinset_card_of_nodup (List.nodup_range.filter _)).trans length_filter_validDevbyte

/-- The accepted sequences, numbered by their DeviceBytes. -/
theorem accepted_eq_image :
    { s : List Byte | ∃ c, codecDecodeSeq s = .command c } = telegramOfNat '' ↑validDevbyteNats := by
  ext s
  simp only [Set.mem_ofPred_eq, codecDecodeSeq_eq_command_iff, Set.mem_image, Finset.mem_coe, mem_validDevbyteNats]
  constructor
  · rintro ⟨c, hgood, rfl⟩
    refine ⟨(devbyte c).toNat, ⟨(devbyte c).isLt, ?_⟩, ?_⟩
    · rw [BitVec.ofNat_toNat, BitVec.setWidth_eq]
      exact validDevbyte_devbyte hgood
    · rw [telegramOfNat, BitVec.ofNat_toNat, BitVec.setWidth_eq, cmdOfDevbyte_devbyte hgood]
  · rintro ⟨n, ⟨-, hvalid⟩, rfl⟩
    exact ⟨_, goodOperands_cmdOfDevbyte hvalid, rfl⟩

/-- Different DeviceBytes stand in different telegrams, at index 3. -/
theorem telegramOfNat_injOn : Set.InjOn telegramOfNat ↑validDevbyteNats := by
  intro n hn m hm heq
  obtain ⟨hlt, hvalid⟩ := (mem_validDevbyteNats n).mp hn
  obtain ⟨hlt', hvalid'⟩ := (mem_validDevbyteNats m).mp hm
  have hcell : devbyte (cmdOfDevbyte (BitVec.ofNat 8 n)) = devbyte (cmdOfDevbyte (BitVec.ofNat 8 m)) :=
    congrArg (fun l => l.getD 3 0) heq
  rw [devbyte_cmdOfDevbyte hvalid, devbyte_cmdOfDevbyte hvalid', ← BitVec.toNat_inj, BitVec.toNat_ofNat,
    BitVec.toNat_ofNat] at hcell
  omega

theorem ncard_accepted : Set.ncard { s : List Byte | ∃ c, codecDecodeSeq s = .command c } = 48 := by
  rw [accepted_eq_image, telegramOfNat_injOn.ncard_image, Set.ncard_coe_finset, card_validDevbyteNats]

/-- Settles O13: the accepted sequences are the frames of the valid Commands. -/
theorem codecRoundTrip : Obligations.CodecRoundTrip := by
  unfold Obligations.CodecRoundTrip
  refine ⟨fun c hgood => ?_, fun s c h => ?_, ncard_accepted, fun c f h => ?_⟩
  · exact ⟨_, codecEncode_good hgood, (codecDecodeSeq_eq_command_iff _ c).mpr ⟨hgood, rfl⟩⟩
  · obtain ⟨hgood, hs⟩ := (codecDecodeSeq_eq_command_iff s c).mp h
    exact ⟨_, codecEncode_good hgood, hs.symm⟩
  · have hf : f = frameOf c := by
      unfold codecEncode at h
      split at h <;> cases h
      rfl
    rw [hf]
    exact (ckOk_iff _).mp (ckOk_frameOf c)

/-- A well-formed telegram's fields are those of a valid Command, and its cells are that Command's frame (R67, R92). -/
theorem telegramFrame_eq_frameOf {fn g : BitVec 2} {ccc : BitVec 3} (hfn : fn = 0b01 ∨ fn = 0b10) (hg : g ≠ 3) :
    GoodOperands ⟨g, ccc.setWidth 4 + 1, fn⟩ ∧
      telegramFrame fn g ccc (0x94 - fieldsDevb fn g ccc) = frameOf ⟨g, ccc.setWidth 4 + 1, fn⟩ := by
  have hvalid : validDevbyte (fieldsDevb fn g ccc) = true := (validDevbyte_fieldsDevb_iff fn g ccc).mpr ⟨hfn, hg⟩
  have hbyte : devbyte ⟨g, ccc.setWidth 4 + 1, fn⟩ = fieldsDevb fn g ccc := by
    rw [← cmdOfDevbyte_fieldsDevb, devbyte_cmdOfDevbyte hvalid]
  refine ⟨(goodOperands_fields_iff fn g ccc).mpr ⟨hfn, hg⟩, ?_⟩
  rw [frameOf_eq, hbyte]
  rfl

/-- A valid Command's frame is the telegram of its fields (R67, R92). -/
theorem frameOf_eq_telegramFrame {c : Command} (h : GoodOperands c) :
    frameOf c = telegramFrame c.act c.grp ((c.chan - 1).setWidth 3)
      (0x94 - fieldsDevb c.act c.grp ((c.chan - 1).setWidth 3)) := by
  rw [frameOf_eq, devbyte_eq_fieldsDevb h]
  rfl

theorem wellFormed_tgmOn_iff (g : BitVec 2) (ccc : BitVec 3) (k : Byte) :
    wellFormed (.tgmOn g ccc k) = true ↔ g ≠ 3 ∧ k = 0x94 - fieldsDevb 0b01 g ccc := by
  simp [wellFormed, groupFieldOk, checksumFieldOk]

theorem wellFormed_tgmOff_iff (g : BitVec 2) (ccc : BitVec 3) (k : Byte) :
    wellFormed (.tgmOff g ccc k) = true ↔ g ≠ 3 ∧ k = 0x94 - fieldsDevb 0b10 g ccc := by
  simp [wellFormed, groupFieldOk, checksumFieldOk]

/-- Settles O5: both sides say that the frame is a valid Command's. -/
theorem wellFormedTelegramsAreTheDecodable : Obligations.WellFormedTelegramsAreTheDecodable := by
  unfold Obligations.WellFormedTelegramsAreTheDecodable
  intro f
  simp only [codecDecode_eq_command_iff]
  constructor
  · rintro ⟨i, hi, hwf⟩
    obtain ⟨g, ccc, k, ⟨rfl, rfl⟩ | ⟨rfl, rfl⟩⟩ := (decodeTgm_eq_ok_iff f i).mp hi
    · obtain ⟨hg, rfl⟩ := (wellFormed_tgmOn_iff g ccc k).mp hwf
      exact ⟨_, telegramFrame_eq_frameOf (.inl rfl) hg⟩
    · obtain ⟨hg, rfl⟩ := (wellFormed_tgmOff_iff g ccc k).mp hwf
      exact ⟨_, telegramFrame_eq_frameOf (.inr rfl) hg⟩
  · rintro ⟨⟨grp, chan, act⟩, hgood, rfl⟩
    have hframe := frameOf_eq_telegramFrame hgood
    obtain ⟨hgrp, -, rfl | rfl⟩ := hgood
    · exact ⟨_, (decodeTgm_eq_ok_iff _ _).mpr ⟨_, _, _, .inl ⟨rfl, hframe⟩⟩,
        (wellFormed_tgmOn_iff _ _ _).mpr ⟨(group_good_iff _).mp hgrp, rfl⟩⟩
    · exact ⟨_, (decodeTgm_eq_ok_iff _ _).mpr ⟨_, _, _, .inr ⟨rfl, hframe⟩⟩,
        (wellFormed_tgmOff_iff _ _ _).mpr ⟨(group_good_iff _).mp hgrp, rfl⟩⟩

end Sys2Proof.Machine
end

section
/-! PROOFS. What an operation other than SEND and CLR leaves alone (spec/40_codec.md R96, R100, spec/42_handshake.md R137):
in a state that is not busy it touches neither the handshake nor the transmit side of the port. -/

namespace Sys2Proof.Machine

/-- `t` keeps the handshake of `s`, and the step to it offers nothing to the port. -/
structure HandshakeKept (s t : State) : Prop where
  hs : t.regs.hs = s.regs.hs
  reason : t.regs.reason = s.regs.reason
  txidx : t.regs.txidx = s.regs.txidx
  attTmr : t.regs.attTmr = s.regs.attTmr
  attCnt : t.regs.attCnt = s.regs.attCnt
  tx : t.tx = s.tx
  txValid : t.out.txValid = false
  txFlush : t.out.txFlush = false

theorem HandshakeKept.notBusy {s t : State} (h : HandshakeKept s t) (hs : NotBusy s) : NotBusy t := by
  rw [NotBusy, h.hs]
  exact hs

theorem quietStep_keeps {s t : State} (h : quietStep s = .next t) : HandshakeKept s t := by
  cases h
  exact ⟨rfl, rfl, rfl, rfl, rfl, rfl, rfl, rfl⟩

theorem refuseOp_keeps {s t : State} (h : refuseOp s = .next t) : HandshakeKept s t := by
  cases h
  exact ⟨rfl, rfl, rfl, rfl, rfl, rfl, rfl, rfl⟩

theorem takeEnc_keeps {c : Command} {s t : State} (h : takeEnc c s = .next t) : HandshakeKept s t := by
  rcases takeEnc_cases c s with ⟨-, e⟩ | ⟨-, e⟩ <;> rw [e] at h <;> cases h <;>
    exact ⟨rfl, rfl, rfl, rfl, rfl, rfl, rfl, rfl⟩

theorem takeDec_keeps {len : BitVec Config.decLenW} {f : Frame} {s t : State} (h : takeDec len f s = .next t) :
    HandshakeKept s t := by
  cases h
  constructor <;> simp

end Sys2Proof.Machine
end

section
/-! PROOFS. The agents' turn (spec/43_environment.md R166 to R170): one equation per loop and state of its locks. While
the block is busy no loop writes, and in AWAIT none reads. -/

namespace Sys2Proof.Machine

theorem readerReply_of_busy {s : State} (h : Busy s) : readerReply s = s := if_pos h

theorem readerReply_of_notBusy {s : State} (h : NotBusy s) :
    readerReply s = { s with tx := s.tx ++ List.replicate s.ackOwed Config.ack, ackOwed := 0 } := by
  have hfree : ¬ writeLocked s = true := by rw [writeLocked, h]; exact Bool.false_ne_true
  exact if_neg hfree

theorem readerRead_of_await {s : State} (h : s.regs.hs = .await) : readerRead s = s := by
  simp [readerRead, readOwned, h]

theorem readerRead_of_owed {s : State} (h : s.ackOwed ≠ 0) : readerRead s = s := by
  simp [readerRead, h]

theorem readerRead_of_empty {s : State} (h : s.rx = []) : readerRead s = s := by
  simp [readerRead, h]

theorem readerRead_of_cons {s : State} {b : Byte} {rest : List Byte} (hs : s.regs.hs ≠ .await) (howed : s.ackOwed = 0)
    (hrx : s.rx = b :: rest) : readerRead s = readerJudge b { s with rx := rest } := by
  simp [readerRead, readOwned, hs, howed, hrx]

theorem readerJudge_inq (s : State) : readerJudge 0xFA s = { s with ackOwed := s.ackOwed + 2 } := rfl

theorem readerJudge_other {b : Byte} (h : b ≠ 0xFA) (s : State) :
    readerJudge b s = { s with display := s.display ++ [b] } := if_neg h

theorem readerJudge_tx (b : Byte) (s : State) : (readerJudge b s).tx = s.tx := by
  unfold readerJudge
  split <;> rfl

theorem readerRead_tx (s : State) : (readerRead s).tx = s.tx := by
  unfold readerRead
  split
  · rfl
  · split
    · rfl
    · exact readerJudge_tx _ _

theorem readerTurn_of_busy {s : State} (h : Busy s) : readerTurn s = readerRead s := by
  have hread : Busy (readerRead s) := by rw [Busy, (readerRead_untouched s).regs]; exact h
  rw [readerTurn, readerReply_of_busy h, readerReply_of_busy hread]

theorem forwardKeys_of_busy {s : State} (bytes : List Byte) (h : Busy s) : forwardKeys bytes s = s := if_pos h

theorem forwardKeys_of_notBusy {s : State} (bytes : List Byte) (h : NotBusy s) :
    forwardKeys bytes s = { s with
      tx := s.tx ++ bytes
      display := if s.session.echo = true then s.display ++ bytes else s.display } := by
  have hfree : ¬ writeLocked s = true := by rw [writeLocked, h]; exact Bool.false_ne_true
  rw [forwardKeys, if_neg hfree, echoLocal, otherWrite_session]
  split <;> rfl

theorem newlineBytes_eq (m : NewlineMode) : newlineBytes m = newlineOnWire m := by
  cases m <;> rfl

theorem keyTurn_of_busy {s : State} (u : KeyUnit) (h : Busy s) : (keyTurn u s).tx = s.tx ∧ (keyTurn u s).rx = s.rx := by
  cases u with
  | exit | menu => exact ⟨rfl, rfl⟩
  | newline | char b => rw [keyTurn, forwardKeys_of_busy _ h]; exact ⟨rfl, rfl⟩

/-- R51, R170: while busy, no act reaches the TX stream. -/
theorem envAct_tx_of_busy {s : State} (a : EnvAct) (h : Busy s) : (envAct a s).tx = s.tx := by
  cases a with
  | readerTurn =>
    rw [envAct, readerTurn_of_busy h]
    split
    · exact readerRead_tx s
    · rfl
  | key u =>
    rw [envAct]
    split
    · exact (keyTurn_of_busy u h).1
    · rfl
  | arrive | start | stop | ioError => rfl

/-- R51, R170: in AWAIT, no act takes a byte from the port. -/
theorem envAct_rx_of_await {s : State} (a : EnvAct) (h : s.regs.hs = .await) : ∃ more, (envAct a s).rx = s.rx ++ more := by
  have hbusy : Busy s := by rw [Busy, h, isBusy_await]
  cases a with
  | arrive b => exact ⟨[b], rfl⟩
  | readerTurn => exact ⟨[], by rw [envAct, readerTurn_of_busy hbusy, readerRead_of_await h, ite_self, List.append_nil]⟩
  | key u =>
    refine ⟨[], ?_⟩
    rw [envAct, List.append_nil]
    split
    · exact (keyTurn_of_busy u hbusy).2
    · rfl
  | start | stop | ioError => exact ⟨[], (List.append_nil _).symm⟩

theorem envActs_tx_of_busy (acts : List EnvAct) {s : State} (h : Busy s) : (envActs acts s).tx = s.tx := by
  induction acts generalizing s with
  | nil => rfl
  | cons a acts ih =>
    have hnext : Busy (envAct a s) := by rw [Busy, (envAct_untouched a s).regs]; exact h
    rw [envActs, ih hnext, envAct_tx_of_busy a h]

theorem envActs_rx_of_await (acts : List EnvAct) {s : State} (h : s.regs.hs = .await) :
    ∃ more, (envActs acts s).rx = s.rx ++ more := by
  induction acts generalizing s with
  | nil => exact ⟨[], (List.append_nil _).symm⟩
  | cons a acts ih =>
    have hnext : (envAct a s).regs.hs = .await := by rw [(envAct_untouched a s).regs, h]
    obtain ⟨more, hmore⟩ := ih hnext
    obtain ⟨first, hfirst⟩ := envAct_rx_of_await a h
    exact ⟨first ++ more, by rw [envActs, hmore, hfirst, List.append_assoc]⟩

/-- Settles O53: the exclusions by induction on the acts; each act's own effect by its equation. -/
theorem agentsKeepOff : Obligations.AgentsKeepOff := by
  unfold Obligations.AgentsKeepOff
  refine ⟨fun acts s => ⟨(envActs_untouched acts s).regs, envActs_tx_of_busy acts, envActs_rx_of_await acts⟩,
    fun s halive hfree => ⟨fun b => ?_, ?_⟩, fun s hbusy => ⟨fun b => ?_, ?_⟩,
    fun s => ⟨?_, fun halive => ?_, fun halive u => ⟨?_, ?_⟩⟩, fun s b => ⟨rfl, rfl, rfl, rfl⟩⟩
  · rw [envAct, if_pos halive, keyTurn, forwardKeys_of_notBusy _ hfree]
  · rw [envAct, if_pos halive, keyTurn, forwardKeys_of_notBusy _ hfree, newlineBytes_eq]
  · rw [envAct, keyTurn, forwardKeys_of_busy _ hbusy, ite_self]
  · rw [envAct, keyTurn, forwardKeys_of_busy _ hbusy, ite_self]
  · rw [envAct, keyTurn, ite_self]
  · rw [envAct, if_pos halive, keyTurn]
  · rw [envAct, halive, if_neg Bool.false_ne_true]
  · rw [envAct, halive, if_neg Bool.false_ne_true]

/-- The loop's turn when the write side is free: what it owes goes out, it reads, and its reply follows (R166). -/
theorem readerTurn_of_notBusy {s : State} (h : NotBusy s) :
    readerTurn s = readerReply (readerRead { s with
      tx := s.tx ++ List.replicate s.ackOwed Config.ack, ackOwed := 0 }) := by
  rw [readerTurn, readerReply_of_notBusy h]

theorem readerTurn_reads_of_notBusy {s : State} {b : Byte} {rest : List Byte} (h : NotBusy s) (hrx : s.rx = b :: rest) :
    readerTurn s = if b = 0xFA then
        { s with rx := rest, tx := s.tx ++ List.replicate s.ackOwed 0x05 ++ [0x05, 0x05], ackOwed := 0 }
      else { s with
        rx := rest, tx := s.tx ++ List.replicate s.ackOwed 0x05, display := s.display ++ [b], ackOwed := 0 } := by
  have hawait : s.regs.hs ≠ .await := by
    intro hs
    rw [NotBusy, hs] at h
    cases h
  rw [readerTurn_of_notBusy h, readerRead_of_cons (by exact hawait) (by rfl) (by exact hrx)]
  by_cases hb : b = 0xFA
  · rw [hb, readerJudge_inq, readerReply_of_notBusy (by exact h), if_pos rfl]
    rfl
  · rw [readerJudge_other hb, readerReply_of_notBusy (by exact h), if_neg hb]
    simp only [List.replicate_zero, List.append_nil]
    rfl

/-- Settles O54, a clause per state of the write side and of the queue. -/
theorem readerLoopAnswersInq : Obligations.ReaderLoopAnswersInq := by
  unfold Obligations.ReaderLoopAnswersInq
  refine ⟨fun s b rest halive hfree hrx => ?_, fun s b rest halive hxmit howed hrx => ?_, fun s hbusy hwait => ?_,
    fun s halive hfree hrx => ?_⟩
  · rw [envAct, if_pos halive, readerTurn_reads_of_notBusy hfree hrx]
  · have hbusy : Busy s := by rw [Busy, hxmit, isBusy_xmit]
    have hawait : s.regs.hs ≠ .await := by rw [hxmit]; nofun
    rw [envAct, if_pos halive, readerTurn_of_busy hbusy, readerRead_of_cons hawait howed hrx, readerJudge, howed]
    rfl
  · rw [envAct, readerTurn_of_busy hbusy]
    rcases hwait with howed | hrx | hawait | halive
    · rw [readerRead_of_owed howed, ite_self]
    · rw [readerRead_of_empty hrx, ite_self]
    · rw [readerRead_of_await hawait, ite_self]
    · rw [halive, if_neg Bool.false_ne_true]
  · rw [envAct, if_pos halive, readerTurn_of_notBusy hfree, readerRead_of_empty (by exact hrx),
      readerReply_of_notBusy (by exact hfree)]
    simp only [List.replicate_zero, List.append_nil]
    rfl

end Sys2Proof.Machine
end

section
/-! PROOFS. The register invariant (spec/10_state.md R28): said of the registers alone, then kept by each update that a
step can make of them, then by the step. -/

namespace Sys2Proof.Machine

/-- R28 of the registers, with the two other fields it reads: the parameters and whether a DEC has been taken. -/
structure RegsOk (p : Params) (taken : Bool) (r : Regs) : Prop where
  reason : ReasonInv r
  index : IndexInv r
  buffer : BufferInv r
  timer : TimerInv p r
  decode : DecodeInv taken r

theorem regsInv_iff (s : State) : RegsInv s ↔ RegsOk s.cfg s.decTaken s.regs :=
  ⟨fun ⟨hreason, hindex, hbuffer, htimer, hdecode⟩ => ⟨hreason, hindex, hbuffer, htimer, hdecode⟩,
    fun ⟨hreason, hindex, hbuffer, htimer, hdecode⟩ => ⟨hreason, hindex, hbuffer, htimer, hdecode⟩⟩

theorem not_await_or_xmit {h : HState} (hfree : HState.isBusy h = false) : ¬ (h = .await ∨ h = .xmit) := by
  rintro (rfl | rfl) <;> cases hfree

theorem validCommand_iff (c : Command) : validCommand c = true ↔ GoodOperands c := by
  rw [validCommand, beq_iff_eq, encCheck_eq_zero_iff_goodOperands]

section
variable {p : Params} {taken : Bool} {r : Regs}

/-- Item 2 read in a state other than FAILED. -/
theorem RegsOk.reason_eq_none (h : RegsOk p taken r) (hs : r.hs ≠ .failed) : r.reason = .none := by
  by_contra hne
  exact hs (h.reason.mp hne)

/-- What the entry into FAILED needs of the registers it starts from: nothing about `HS` and `REASON`, which it writes. -/
theorem regsOk_enterFailed {why : Reason} (hwhy : why ≠ .none) (hindex : r.txidx.toNat ≤ 12)
    (hstart : why = .timeout ∨ why = .unexpected → r.txidx = 0) (hbuffer : r.tbValid = true → IsTelegram r.tb)
    (htimer : TimerInv p r) (hdecode : DecodeInv taken r) : RegsOk p taken (enterFailed why r) where
  reason := by simp [ReasonInv, hwhy]
  index := ⟨hindex, nofun, nofun, fun _ => hstart⟩
  buffer := ⟨nofun, hbuffer, nofun⟩
  timer := htimer
  decode := hdecode

theorem RegsOk.txidx_le (h : RegsOk p taken r) : r.txidx.toNat ≤ 12 := by
  obtain ⟨hmax, -⟩ := h.index
  exact hmax

theorem RegsOk.isTelegram (h : RegsOk p taken r) : r.tbValid = true → IsTelegram r.tb := by
  obtain ⟨-, htelegram, -⟩ := h.buffer
  exact htelegram

theorem RegsOk.timer_pos (h : RegsOk p taken r) : 0 < p.attemptTicks ∧ 0 < p.maxAttempts := by
  obtain ⟨htmr, hcnt⟩ := h.timer
  exact ⟨Nat.zero_lt_of_lt htmr, Nat.zero_lt_of_lt hcnt⟩

theorem RegsOk.enterFailed {why : Reason} (h : RegsOk p taken r) (hwhy : why ≠ .none)
    (hstart : why = .timeout ∨ why = .unexpected → r.txidx = 0) : RegsOk p taken (enterFailed why r) :=
  regsOk_enterFailed hwhy h.txidx_le hstart h.isTelegram h.timer h.decode

theorem RegsOk.txidx_of_await (h : RegsOk p taken r) (hs : r.hs = .await) : r.txidx = 0 := by
  obtain ⟨-, -, hzero, -⟩ := h.index
  exact hzero (.inl hs)

/-- AWAIT left for XMIT: the telegram stands, the index is 0 (R130). -/
theorem RegsOk.enterXmit (h : RegsOk p taken r) (hs : r.hs = .await) : RegsOk p taken { r with hs := .xmit } where
  reason := by simp [ReasonInv, h.reason_eq_none (by simp [hs])]
  index := ⟨h.txidx_le, nofun, nofun, nofun⟩
  buffer := by
    obtain ⟨hvalid, htelegram, hmask⟩ := h.buffer
    exact ⟨fun _ => hvalid (.inl hs), htelegram, fun _ => hmask (.inl hs)⟩
  timer := h.timer
  decode := h.decode

theorem RegsOk.judgeReply (h : RegsOk p taken r) (hs : r.hs = .await) (b : Byte) :
    RegsOk p taken (judgeReply b r) := by
  rcases judgeReply_cases b r with ⟨-, e⟩ | ⟨-, e⟩ <;> rw [e]
  · exact h.enterXmit hs
  · exact h.enterFailed nofun fun _ => h.txidx_of_await hs

/-- The timers are the concern of item 6 alone. -/
theorem RegsOk.setTimers (h : RegsOk p taken r) {tmr cnt : BitVec 16} (htmr : tmr.toNat < p.attemptTicks)
    (hcnt : cnt.toNat < p.maxAttempts) : RegsOk p taken { r with attTmr := tmr, attCnt := cnt } where
  reason := h.reason
  index := h.index
  buffer := h.buffer
  timer := ⟨htmr, hcnt⟩
  decode := h.decode

theorem RegsOk.tick (h : RegsOk p taken r) (hs : r.hs = .await) : RegsOk p taken (tickRegs p r) := by
  obtain ⟨htmr, hcnt⟩ := h.timer
  obtain ⟨hzero, -⟩ := h.timer_pos
  rcases tickRegs_cases p r with ⟨hgo, e⟩ | ⟨-, hgo, e⟩ | ⟨-, -, e⟩ <;> rw [e]
  · exact h.setTimers (Nat.lt_of_le_of_lt (by bv_omega) hgo) hcnt
  · exact h.setTimers (tmr := 0) hzero (Nat.lt_of_le_of_lt (by bv_omega) hgo)
  · exact (h.setTimers (tmr := 0) hzero hcnt).enterFailed nofun fun _ => h.txidx_of_await hs

/-- A byte of the telegram has been transferred (R134). -/
theorem RegsOk.advance (h : RegsOk p taken r) (hs : r.hs = .xmit) (hindex : r.txidx.toNat ≤ 11) :
    RegsOk p taken { r with txidx := r.txidx + 1 } where
  reason := h.reason
  index := ⟨by bv_omega, by simp [hs], by simp [hs], by simp [hs]⟩
  buffer := h.buffer
  timer := h.timer
  decode := h.decode

/-- The flush is over (R136): item 3 bounds the index by 12, the flush phase from below. -/
theorem RegsOk.complete (h : RegsOk p taken r) (hs : r.hs = .xmit) (hindex : 11 < r.txidx.toNat) :
    RegsOk p taken { r with hs := .complete } where
  reason := by simp [ReasonInv, h.reason_eq_none (by simp [hs])]
  index := by
    have hmax := h.txidx_le
    exact ⟨hmax, fun _ => by bv_omega, nofun, nofun⟩
  buffer := by
    obtain ⟨hvalid, htelegram, -⟩ := h.buffer
    exact ⟨fun _ => hvalid (.inr (.inl hs)), htelegram, nofun⟩
  timer := h.timer
  decode := h.decode

theorem isTelegram_frameOf {c : Command} (h : encCheck c = 0) : IsTelegram (frameOf c) :=
  ⟨c, beq_iff_eq.mpr h, rfl⟩

theorem RegsOk.buildTelegram (h : RegsOk p taken r) {c : Command} (hc : encCheck c = 0) :
    RegsOk p taken (buildTelegram c r) where
  reason := h.reason
  index := h.index
  buffer := ⟨fun _ => rfl, fun _ => isTelegram_frameOf hc, fun _ => rfl⟩
  timer := h.timer
  decode := h.decode

theorem RegsOk.recordEncodeError (h : RegsOk p taken r) (hs : HState.isBusy r.hs = false) (e : BitVec 3) :
    RegsOk p taken (recordEncodeError e r) where
  reason := h.reason
  index := h.index
  buffer := by
    obtain ⟨hvalid, htelegram, -⟩ := h.buffer
    exact ⟨hvalid, htelegram, fun hbusy => absurd hbusy (not_await_or_xmit hs)⟩
  timer := h.timer
  decode := h.decode

theorem RegsOk.clearInstance (h : RegsOk p taken r) : RegsOk p taken (clearInstance r) where
  reason := by simp [ReasonInv]
  index := ⟨by simp, nofun, fun _ => rfl, nofun⟩
  buffer := ⟨nofun, h.isTelegram, nofun⟩
  timer := h.timer
  decode := h.decode

/-- A new handshake needs the telegram it is to send (R122). -/
theorem RegsOk.enterAwait (h : RegsOk p taken r) (hvalid : r.tbValid = true) (hmask : r.encErr = 0) :
    RegsOk p taken (enterAwait r) where
  reason := by simp [ReasonInv]
  index := ⟨by simp, nofun, fun _ => rfl, nofun⟩
  buffer := ⟨fun _ => hvalid, h.isTelegram, fun _ => hmask⟩
  timer := h.timer_pos
  decode := h.decode

theorem validDevbyte_of_decCheck {len : Nat} {f : Frame} (h : decCheck len f = .ok) : validDevbyte f.b3 = true := by
  rw [decCheck, check_eq_ok_iff (by decide), frameCheck_eq_ok_iff] at h
  obtain ⟨-, -, -, -, -, hbyte⟩ := h
  exact hbyte

/-- A taken DEC: `DCMD_VALID` with the code of success, and with operands that are a valid Command's (R100). -/
theorem RegsOk.decodeInto (h : RegsOk p taken r) (len : Nat) (f : Frame) : RegsOk p true (decodeInto len f r) where
  reason := by simpa [ReasonInv] using h.reason
  index := by simpa [IndexInv] using h.index
  buffer := by simpa [BufferInv] using h.buffer
  timer := by simpa [TimerInv] using h.timer
  decode := by
    rcases decodeInto_cases len f r with ⟨hcode, e⟩ | ⟨hcode, e⟩ <;> rw [e]
    · exact ⟨by simp, fun _ => (validCommand_iff _).mpr (goodOperands_cmdOfDevbyte (validDevbyte_of_decCheck hcode))⟩
    · exact ⟨by simp [hcode], nofun⟩

theorem RegsOk.reset (h : RegsOk p taken r) (n : Nat) : RegsOk p false (resetRegs n) where
  reason := by simp [ReasonInv]
  index := ⟨by simp, nofun, fun _ => rfl, nofun⟩
  buffer := ⟨nofun, nofun, nofun⟩
  timer := h.timer_pos
  decode := ⟨by simp, nofun⟩

end

theorem regsInv_endOfStep {s : State} (h : RegsInv s) : RegsInv (endOfStep s) := by
  simpa [RegsInv] using h

/-- The state machine keeps the invariant, so a host step does when its operation does. -/
theorem hostStep_keeps_regsInv {rej : Bool} {act : State → Result} {s t : State} (hs : RegsInv s)
    (hact : NotBusy s → act s = .next t → RegsInv t) (h : hostStep rej act s = .next t) : RegsInv t := by
  have hok := (regsInv_iff s).mp hs
  apply hostStep_rule RegsInv rej act s t h
  case byte => exact fun hawait b _ _ => (regsInv_iff _).mpr (hok.judgeReply hawait b)
  case tick => exact fun hawait _ _ _ => (regsInv_iff _).mpr (hok.tick hawait)
  case wait => exact fun _ _ _ => hs
  case writeErr => exact fun _ _ _ => (regsInv_iff _).mpr (hok.enterFailed nofun nofun)
  case write => exact fun hxmit hindex _ _ => (regsInv_iff _).mpr (hok.advance hxmit hindex)
  case stall => exact fun _ _ _ _ => hs
  case flushErr => exact fun _ _ _ => (regsInv_iff _).mpr (hok.enterFailed nofun nofun)
  case flushed => exact fun hxmit hindex _ _ => (regsInv_iff _).mpr (hok.complete hxmit hindex)
  case flushing => exact fun _ _ _ _ => hs
  case op => exact hact

theorem takeEnc_keeps_regsInv {c : Command} {s t : State} (hs : RegsInv s) (hfree : NotBusy s)
    (h : takeEnc c s = .next t) : RegsInv t := by
  have hok := (regsInv_iff s).mp hs
  rcases takeEnc_cases c s with ⟨hc, e⟩ | ⟨-, e⟩ <;> rw [e] at h <;> cases h
  · exact (regsInv_iff _).mpr (hok.buildTelegram hc)
  · exact (regsInv_iff _).mpr (hok.recordEncodeError hfree _)

theorem takeDec_keeps_regsInv {len : BitVec Config.decLenW} {f : Frame} {s t : State} (hs : RegsInv s)
    (h : takeDec len f s = .next t) : RegsInv t := by
  cases h
  exact (regsInv_iff _).mpr (((regsInv_iff s).mp hs).decodeInto len.toNat f)

theorem evalSend_keeps_regsInv {c : Command} {s t : State} (hs : RegsInv s) (hfree : NotBusy s)
    (h : evalSend c s = .next t) : RegsInv t := by
  have hok := (regsInv_iff s).mp hs
  rcases evalSend_cases c s with ⟨-, e⟩ | ⟨hc, -, e⟩ | ⟨hc, -, -, e⟩ | ⟨-, -, -, e⟩ <;> rw [e] at h <;> cases h
  · exact (regsInv_iff _).mpr (hok.recordEncodeError hfree _).clearInstance
  · exact (regsInv_iff _).mpr (regsOk_enterFailed nofun (by simp) nofun (fun _ => isTelegram_frameOf hc)
      hok.timer hok.decode)
  · exact (regsInv_iff _).mpr ((hok.buildTelegram hc).enterAwait rfl rfl)
  · exact hs

theorem takeClr_keeps_regsInv {s t : State} (hs : RegsInv s) (h : takeClr s = .next t) : RegsInv t := by
  cases h
  exact (regsInv_iff _).mpr ((regsInv_iff s).mp hs).clearInstance

theorem quietStep_keeps_regsInv {s t : State} (hs : RegsInv s) (h : quietStep s = .next t) : RegsInv t := by
  cases h
  exact hs

theorem refuseOp_keeps_regsInv {s t : State} (hs : RegsInv s) (h : refuseOp s = .next t) : RegsInv t := by
  cases h
  exact hs

theorem resetStep_keeps_regsInv {s t : State} (hs : RegsInv s) (h : resetStep (lineArrival s) = .next t) :
    RegsInv t := by
  cases h
  rw [regsInv_iff, lineArrival_cfg]
  exact ((regsInv_iff s).mp hs).reset _

/-- What the block does with the word presented in a step with `rst` = 0: the hypothesis of `block_cases`. -/
def BlockStep (s u : State) : Prop :=
  (∃ i, fetch s = .ok i ∧ exec i s = .next u) ∨ (∃ r, fetch s = .error r ∧ execRejected r s = .next u)

/-- `step_cases`, with the two kinds of presented word together. -/
theorem step_reset_or_block {s t : State} (h : step s = .next t) : ∃ u, t = endOfStep u ∧
    ((s.pins.rst = true ∧ resetStep (lineArrival s) = .next u) ∨ (s.pins.rst = false ∧ BlockStep s u)) := by
  obtain ⟨u, ht, hreset | ⟨hrst, hinstr⟩ | ⟨hrst, hother⟩⟩ := step_cases s t h
  · exact ⟨u, ht, .inl hreset⟩
  · exact ⟨u, ht, .inr ⟨hrst, .inl hinstr⟩⟩
  · exact ⟨u, ht, .inr ⟨hrst, .inr hother⟩⟩

/-- The same where `rst` = 0. -/
theorem step_block {s t : State} (hrst : s.pins.rst = false) (h : step s = .next t) :
    ∃ u, t = endOfStep u ∧ BlockStep s u := by
  obtain ⟨u, ht, ⟨hrst', -⟩ | ⟨-, hblock⟩⟩ := step_reset_or_block h
  · cases hrst.symm.trans hrst'
  · exact ⟨u, ht, hblock⟩

theorem blockStep_keeps_regsInv {s u : State} (hs : RegsInv s) (h : BlockStep s u) : RegsInv u := by
  rcases block_cases s u h with ⟨-, h⟩ | ⟨b, -, h⟩ | ⟨c, h⟩ | ⟨len, f, h⟩ | ⟨c, -, h⟩ | ⟨-, h⟩ | h
  · exact hostStep_keeps_regsInv hs (fun _ => quietStep_keeps_regsInv hs) h
  · have hline : RegsInv (receiveByte b s) := hs
    exact hostStep_keeps_regsInv hline (fun _ => quietStep_keeps_regsInv hline) h
  · exact hostStep_keeps_regsInv hs (takeEnc_keeps_regsInv hs) h
  · exact hostStep_keeps_regsInv hs (fun _ => takeDec_keeps_regsInv hs) h
  · exact hostStep_keeps_regsInv hs (evalSend_keeps_regsInv hs) h
  · exact hostStep_keeps_regsInv hs (fun _ => takeClr_keeps_regsInv hs) h
  · exact hostStep_keeps_regsInv hs (fun _ => refuseOp_keeps_regsInv hs) h

/-- Settles O56: the reset step and each kind of host step keep the registers' invariant, and no agent writes them. -/
theorem registerInvariantKept : Obligations.RegisterInvariantKept := by
  unfold Obligations.RegisterInvariantKept
  intro s t hs hstep
  obtain ⟨u, rfl, ⟨-, hreset⟩ | ⟨-, hblock⟩⟩ := step_reset_or_block hstep
  · exact regsInv_endOfStep (resetStep_keeps_regsInv hs hreset)
  · exact regsInv_endOfStep (blockStep_keeps_regsInv hs hblock)

end Sys2Proof.Machine
end

section
/-! PROOFS. The shape of the TX stream during a handshake (spec/20_memory.md R48): a transferred SEND puts INQ there, each
byte transferred in XMIT is the next cell of the buffer, and nobody else writes while the block is busy. -/

namespace Sys2Proof.Machine

theorem busy_or_notBusy (s : State) : Busy s ∨ NotBusy s := Bool.eq_false_or_eq_true _

theorem streamInv_of_notBusy {s : State} (h : NotBusy s) : StreamInv s :=
  ⟨fun hawait => absurd (.inl hawait) (not_await_or_xmit h), fun hxmit => absurd (.inr hxmit) (not_await_or_xmit h)⟩

theorem streamInv_of_await {s : State} {before : List Byte} (hs : s.regs.hs = .await) (htx : s.tx = before ++ [Config.inq]) :
    StreamInv s :=
  ⟨fun _ => ⟨before, htx⟩, fun hxmit => by cases hs.symm.trans hxmit⟩

theorem streamInv_of_xmit {s : State} {before : List Byte} (hs : s.regs.hs = .xmit) (hindex : s.regs.txidx.toNat ≤ 12)
    (htx : s.tx = before ++ Config.inq :: (Frame.elements s.regs.tb).take s.regs.txidx.toNat) : StreamInv s :=
  ⟨fun hawait => by (cases hs.symm.trans hawait), fun _ => ⟨hindex, before, htx⟩⟩

theorem length_elements (f : Frame) : (Frame.elements f).length = 12 := rfl

/-- The cell at an index below 12 continues the cells before it. -/
theorem take_succ_elements {f : Frame} {i : BitVec 4} (h : i.toNat ≤ 11) :
    (Frame.elements f).take (i + 1).toNat = (Frame.elements f).take i.toNat ++ [tbCell f i] := by
  have hnext : (i + 1).toNat = i.toNat + 1 := by bv_omega
  have hlt : i.toNat < (Frame.elements f).length := by rw [length_elements]; omega
  have hcell : (Frame.elements f)[i.toNat]? = some ((Frame.elements f)[i.toNat]) := List.getElem?_eq_getElem hlt
  rw [hnext, tbCell_eq_of_getElem? hcell, List.take_append_getElem hlt]

/-- A step of the state machine keeps the shape, whatever the refused operation is. -/
theorem hostStep_keeps_streamInv {rej : Bool} {act : State → Result} {s t : State} (hregs : RegsInv s)
    (hs : StreamInv s) (hact : NotBusy s → act s = .next t → StreamInv t) (h : hostStep rej act s = .next t) :
    StreamInv t := by
  obtain ⟨hawaitShape, hxmitShape⟩ := hs
  apply hostStep_rule StreamInv rej act s t h
  case byte =>
    intro hawait b rest _
    obtain ⟨before, htx⟩ := hawaitShape hawait
    have hzero : s.regs.txidx = 0 := ((regsInv_iff s).mp hregs).txidx_of_await hawait
    rcases judgeReply_cases b s.regs with ⟨-, e⟩ | ⟨-, e⟩
    · refine streamInv_of_xmit (before := before) (by rw [e]) ?_ ?_
      · simp [e, hzero]
      · simpa [e, hzero] using htx
    · exact streamInv_of_notBusy (by rw [e]; rfl)
  case tick =>
    intro hawait _ _ _
    obtain ⟨before, htx⟩ := hawaitShape hawait
    rcases tickRegs_cases s.cfg s.regs with ⟨-, e⟩ | ⟨-, -, e⟩ | ⟨-, -, e⟩
    · exact streamInv_of_await (by rw [e]; exact hawait) htx
    · exact streamInv_of_await (by rw [e]; exact hawait) htx
    · exact streamInv_of_notBusy (by rw [e]; rfl)
  case wait => exact fun _ _ _ => ⟨hawaitShape, hxmitShape⟩
  case write =>
    intro hxmit hindex _ _
    obtain ⟨-, before, htx⟩ := hxmitShape hxmit
    refine streamInv_of_xmit (before := before) hxmit ?_ ?_
    · bv_omega
    · simp only [htx, take_succ_elements hindex, List.append_assoc, List.cons_append]
  case stall | flushing => exact fun _ _ _ _ => ⟨hawaitShape, hxmitShape⟩
  case writeErr | flushErr => exact fun _ _ _ => streamInv_of_notBusy rfl
  case flushed => exact fun _ _ _ _ => streamInv_of_notBusy rfl
  case op => exact hact

/-- Only SEND starts a handshake, and its INQ is the last byte transferred. -/
theorem evalSend_streamInv {c : Command} {s t : State} (hfree : NotBusy s) (h : evalSend c s = .next t) :
    StreamInv t := by
  rcases evalSend_cases c s with ⟨-, e⟩ | ⟨-, -, e⟩ | ⟨-, -, -, e⟩ | ⟨-, -, -, e⟩ <;> rw [e] at h <;> cases h
  · exact streamInv_of_notBusy rfl
  · exact streamInv_of_notBusy rfl
  · exact streamInv_of_await rfl rfl
  · exact streamInv_of_notBusy hfree

theorem takeClr_streamInv {s t : State} (h : takeClr s = .next t) : StreamInv t := by
  cases h
  exact streamInv_of_notBusy rfl

theorem HandshakeKept.streamInv {s t : State} (h : HandshakeKept s t) (hfree : NotBusy s) : StreamInv t :=
  streamInv_of_notBusy (h.notBusy hfree)

theorem blockStep_keeps_streamInv {s u : State} (hregs : RegsInv s) (hs : StreamInv s) (h : BlockStep s u) :
    StreamInv u := by
  rcases block_cases s u h with ⟨-, h⟩ | ⟨b, -, h⟩ | ⟨c, h⟩ | ⟨len, f, h⟩ | ⟨c, -, h⟩ | ⟨-, h⟩ | h
  · exact hostStep_keeps_streamInv hregs hs (fun hfree hq => (quietStep_keeps hq).streamInv hfree) h
  · have hregs' : RegsInv (receiveByte b s) := hregs
    have hs' : StreamInv (receiveByte b s) := hs
    exact hostStep_keeps_streamInv hregs' hs' (fun hfree hq => (quietStep_keeps hq).streamInv hfree) h
  · exact hostStep_keeps_streamInv hregs hs (fun hfree hq => (takeEnc_keeps hq).streamInv hfree) h
  · exact hostStep_keeps_streamInv hregs hs (fun hfree hq => (takeDec_keeps hq).streamInv hfree) h
  · exact hostStep_keeps_streamInv hregs hs evalSend_streamInv h
  · exact hostStep_keeps_streamInv hregs hs (fun _ => takeClr_streamInv) h
  · exact hostStep_keeps_streamInv hregs hs (fun hfree hq => (refuseOp_keeps hq).streamInv hfree) h

theorem endOfStep_tx_of_busy {s : State} (h : Busy s) : (endOfStep s).tx = s.tx := by
  rw [endOfStep, nextPins_tx, envActs_tx_of_busy _ h]

/-- The agents keep the shape: they write no register, and no byte while the block is busy (R170). -/
theorem streamInv_endOfStep {s : State} (h : StreamInv s) : StreamInv (endOfStep s) := by
  rcases busy_or_notBusy s with hbusy | hfree
  · unfold StreamInv
    rw [endOfStep_regs, endOfStep_tx_of_busy hbusy]
    exact h
  · exact streamInv_of_notBusy (by rw [NotBusy, endOfStep_regs]; exact hfree)

/-- Settles O57: the block keeps the shape in every kind of step, and the agents' turn after it too. -/
theorem streamInvariantKept : Obligations.StreamInvariantKept := by
  unfold Obligations.StreamInvariantKept
  intro s t hregs hs hstep
  obtain ⟨u, rfl, ⟨-, hreset⟩ | ⟨-, hblock⟩⟩ := step_reset_or_block hstep
  · cases hreset
    exact streamInv_endOfStep (streamInv_of_notBusy rfl)
  · exact streamInv_endOfStep (blockStep_keeps_streamInv hregs hs hblock)

/-- Settles O55: the registers of R26 meet each item, and no handshake is on. -/
theorem invariantsAtReset : Obligations.InvariantsAtReset := by
  unfold Obligations.InvariantsAtReset
  refine ⟨(regsInv_iff _).mpr ⟨?_, ⟨by decide, nofun, fun _ => rfl, nofun⟩, ⟨nofun, nofun, nofun⟩,
    ⟨by decide, by decide⟩, ⟨?_, nofun⟩⟩, streamInv_of_notBusy rfl⟩
  · exact ⟨fun h => absurd rfl h, nofun⟩
  · exact ⟨nofun, fun h => nomatch h.2⟩

end Sys2Proof.Machine
end

section
/-! PROOFS. What is presented in a step with `rst` = 0 is one of six operations evaluated over the queue as the line has
filled it (spec/42_handshake.md R120): said once for the instructions and once for a step, so that a statement about all
of them is proved of `hostStep` and these operations. -/

namespace Sys2Proof.Machine

/-- What the dispatch of R120 evaluates in a state that is not busy. -/
inductive BlockOp where
  | quiet
  | enc (c : Command)
  | dec (len : BitVec Config.decLenW) (f : Frame)
  | send (c : Command)
  | clr
  | refuse

/-- The operation's own meaning. -/
def BlockOp.act : BlockOp → State → Result
  | .quiet => quietStep
  | .enc c => takeEnc c
  | .dec len f => takeDec len f
  | .send c => evalSend c
  | .clr => takeClr
  | .refuse => refuseOp

/-- Whether the operation drives `op_rej` when the block is busy (R121). -/
def BlockOp.rejects : BlockOp → Bool
  | .quiet => false
  | _ => true

/-- The state as the block sees it when `bytes` have come on the line in this step. -/
def withLine (bytes : List Byte) (s : State) : State := { s with rx := s.rx ++ bytes }

theorem withLine_nil (s : State) : withLine [] s = s := by
  rw [withLine, List.append_nil]

theorem lineBytes_eq_nil {i : Instr} (hinq : i ≠ .inq) (hack : i ≠ .ack) : lineBytes i = [] := by
  unfold lineBytes
  split
  · exact absurd rfl hinq
  · exact absurd rfl hack
  · rfl

/-- What an instruction and the operation of its step have in common. -/
structure OpOf (i : Instr) (op : BlockOp) : Prop where
  send : ∀ c, op = .send c → i = .send c
  clr : op = .clr → i = .clr
  rejects : op.rejects = true ↔ i ≠ .nop ∧ i ≠ .inq ∧ i ≠ .ack

theorem exec_eq_hostStep (i : Instr) (s : State) :
    ∃ op : BlockOp, OpOf i op ∧ exec i s = hostStep op.rejects op.act (withLine (lineBytes i) s) := by
  rcases exec_cases i s with ⟨rfl, e⟩ | ⟨rfl, e⟩ | ⟨rfl, e⟩ | ⟨hnop, hinq, hack, hop⟩
  · exact ⟨.quiet, ⟨nofun, nofun, by simp [BlockOp.rejects]⟩, by rw [e, lineBytes_eq_nil (i := .nop) nofun nofun, withLine_nil]; rfl⟩
  · exact ⟨.quiet, ⟨nofun, nofun, by simp [BlockOp.rejects]⟩, e⟩
  · exact ⟨.quiet, ⟨nofun, nofun, by simp [BlockOp.rejects]⟩, e⟩
  · have hrej : i ≠ .nop ∧ i ≠ .inq ∧ i ≠ .ack := ⟨hnop, hinq, hack⟩
    rw [lineBytes_eq_nil hinq hack, withLine_nil]
    rcases hop with ⟨c, e⟩ | ⟨len, f, e⟩ | ⟨c, hi, e⟩ | ⟨hi, e⟩
    · exact ⟨.enc c, ⟨nofun, nofun, fun _ => hrej, fun _ => rfl⟩, e⟩
    · exact ⟨.dec len f, ⟨nofun, nofun, fun _ => hrej, fun _ => rfl⟩, e⟩
    · exact ⟨.send c, ⟨fun c' h => by cases h; exact hi, nofun, fun _ => hrej, fun _ => rfl⟩, e⟩
    · exact ⟨.clr, ⟨nofun, fun _ => hi, fun _ => hrej, fun _ => rfl⟩, e⟩

/-- An accepted word brings on the line what its instruction does: the word is the instruction's encoding, or a host
operation's. -/
theorem wordLineBytes_of_fetch {s : State} {i : Instr} (h : fetch s = .ok i) :
    wordLineBytes s.pins.word = lineBytes i := by
  have hencode : lineBytes i = wordLineBytes (encode i) := by cases i <;> rfl
  rw [hencode]
  unfold fetch at h
  cases hword : s.pins.word with
  | hop p =>
    rw [hword] at h
    obtain ⟨p', e, -⟩ := encode_of_decodeHop h
    rw [e]
    rfl
  | ctrl b => rw [hword] at h; rw [encode_of_decodeCtrl h]
  | tgm f => rw [hword] at h; rw [encode_of_decodeTgm h]
  | devb d => rw [hword] at h; rw [encode_of_decodeDevb h]

theorem decodeDevb_error {d : Byte} {r : Reject} (h : decodeDevb d = .error r) : r = .notDeviceByte d := by
  unfold decodeDevb at h
  split at h <;> cases h
  rfl

/-- A word that is no instruction steps as one of the operations too, unless it is refused by name. -/
theorem execRejected_eq_hostStep {s u : State} {r : Reject} (hr : fetch s = .error r) (h : execRejected r s = .next u) :
    ∃ op : BlockOp, (∀ c, op ≠ .send c) ∧ op ≠ .clr ∧
      hostStep op.rejects op.act (withLine (wordLineBytes s.pins.word) s) = .next u := by
  unfold fetch at hr
  cases hword : s.pins.word with
  | hop p =>
    rw [hword] at hr
    have hp : r = .reservedOp p.op := by
      rcases decodeHop_cases p with e | e | e | e | e | e <;> cases e.symm.trans hr
      rfl
    rw [hp] at h
    have hline : withLine (wordLineBytes (.hop p)) s = s := withLine_nil s
    exact ⟨.refuse, nofun, nofun, by rw [hline]; exact h⟩
  | ctrl b =>
    rw [hword] at hr
    have hb : r = .otherByte b := by
      rcases decodeCtrl_cases b with ⟨-, e⟩ | ⟨-, e⟩ | e <;> cases e.symm.trans hr
      rfl
    rw [hb] at h
    exact ⟨.quiet, nofun, nofun, h⟩
  | tgm f =>
    rw [hword] at hr
    have hf : r = .notTelegram f := by
      rcases decodeTgm_cases f with e | e | e <;> cases e.symm.trans hr
      rfl
    rw [hf] at h
    have hline : withLine (wordLineBytes (.tgm f)) s = s := withLine_nil s
    exact ⟨.dec 12 f, nofun, nofun, by rw [hline]; exact h⟩
  | devb d =>
    rw [hword] at hr
    rw [decodeDevb_error hr] at h
    cases h

/-- Every step with `rst` = 0 is a host step of one operation; SEND and CLR are presented by their own words alone. -/
theorem blockStep_eq_hostStep {s u : State} (h : BlockStep s u) :
    ∃ op : BlockOp, (∀ c, op = .send c → fetch s = .ok (.send c)) ∧ (op = .clr → fetch s = .ok .clr) ∧
      hostStep op.rejects op.act (withLine (wordLineBytes s.pins.word) s) = .next u := by
  rcases h with ⟨i, hi, h⟩ | ⟨r, hr, h⟩
  · obtain ⟨op, hop, e⟩ := exec_eq_hostStep i s
    rw [wordLineBytes_of_fetch hi]
    exact ⟨op, fun c hc => hop.send c hc ▸ hi, fun hc => hop.clr hc ▸ hi, e.symm.trans h⟩
  · obtain ⟨op, hsend, hclr, e⟩ := execRejected_eq_hostStep hr h
    exact ⟨op, fun c hc => absurd hc (hsend c), fun hc => absurd hc hclr, e⟩

/-- An operation other than SEND and CLR keeps the handshake. -/
theorem blockOp_keeps {op : BlockOp} {s t : State} (hsend : ∀ c, op ≠ .send c) (hclr : op ≠ .clr)
    (h : op.act s = .next t) : HandshakeKept s t := by
  cases op with
  | quiet => exact quietStep_keeps h
  | enc c => exact takeEnc_keeps h
  | dec len f => exact takeDec_keeps h
  | send c => exact absurd rfl (hsend c)
  | clr => exact absurd rfl hclr
  | refuse => exact refuseOp_keeps h

/-- What the six operations do to the handshake: SEND and CLR their own, the others nothing. -/
theorem blockOp_cases {op : BlockOp} {s t : State} (h : op.act s = .next t) :
    HandshakeKept s t ∨ (∃ c, op = .send c ∧ evalSend c s = .next t) ∨ (op = .clr ∧ takeClr s = .next t) := by
  by_cases hsend : ∃ c, op = .send c
  · obtain ⟨c, rfl⟩ := hsend
    exact .inr (.inl ⟨c, rfl, h⟩)
  · by_cases hclr : op = .clr
    · subst hclr
      exact .inr (.inr ⟨rfl, h⟩)
    · exact .inl (blockOp_keeps (fun c hc => hsend ⟨c, hc⟩) hclr h)

end Sys2Proof.Machine
end

section
/-! PROOFS. What every instruction and every step does to the ports and the queues (spec/10_state.md R23, R46, R47,
spec/42_handshake.md R120, R128 to R130, R141), proved of the host step. -/

namespace Sys2Proof.Machine

/-- Outputs that are the state's but for the six driven ones. -/
theorem outputsOf_of_driven {s t : State} {ack rej valid flush pop : Bool} {data : Byte}
    (hout : t.out = { stateOutputs s.regs with
      opAck := ack, opRej := rej, txValid := valid, txData := data, txFlush := flush, rxPop := pop })
    (hdata : valid = false → data = 0) (hone : ¬ (ack = true ∧ rej = true)) : OutputsOf s t := by
  unfold OutputsOf
  rw [hout]
  refine ⟨?_, rfl, ?_, ?_, ?_, rfl, hdata, hone⟩ <;> simp [isBusy_eq_decide]

theorem blockOp_outputs {op : BlockOp} {s t : State} (h : op.act s = .next t) : OutputsOf s t := by
  cases op with
  | quiet | clr | refuse | dec len f => cases h; exact outputsOf_of_driven rfl (fun _ => rfl) nofun
  | enc c =>
    rcases takeEnc_cases c s with ⟨-, e⟩ | ⟨-, e⟩ <;> cases e.symm.trans h <;>
      exact outputsOf_of_driven rfl (fun _ => rfl) nofun
  | send c =>
    rcases evalSend_cases c s with ⟨-, e⟩ | ⟨-, -, e⟩ | ⟨-, -, -, e⟩ | ⟨-, -, -, e⟩ <;> cases e.symm.trans h
    · exact outputsOf_of_driven rfl (fun _ => rfl) nofun
    all_goals exact outputsOf_of_driven rfl nofun nofun

theorem hostStep_outputs {op : BlockOp} {s t : State} (h : hostStep op.rejects op.act s = .next t) : OutputsOf s t := by
  apply hostStep_rule (OutputsOf s) op.rejects op.act s t h
  case op => exact fun _ hact => blockOp_outputs hact
  case writeErr | write | stall => intros; exact outputsOf_of_driven rfl nofun nofun
  all_goals intros; exact outputsOf_of_driven rfl (fun _ => rfl) nofun

/-- Settles O42: for the instructions and for the steps by the same fact about the host step. -/
theorem outputsFollowState : Obligations.OutputsFollowState := by
  unfold Obligations.OutputsFollowState
  refine ⟨fun i s t h => ?_, fun s t hrst h => ?_⟩
  · obtain ⟨op, -, e⟩ := exec_eq_hostStep i s
    have hout : OutputsOf (withLine (lineBytes i) s) t := hostStep_outputs (e.symm.trans h)
    exact hout
  · obtain ⟨u, rfl, hblock⟩ := step_block hrst h
    obtain ⟨op, -, -, e⟩ := blockStep_eq_hostStep hblock
    have hout : OutputsOf (withLine (wordLineBytes s.pins.word) s) u := hostStep_outputs e
    unfold OutputsOf
    rw [endOfStep_out]
    exact hout

/-- R47, R128 of one step: a byte joins the TX stream where it is offered to a ready port without an error. -/
def TransferOk (s t : State) : Prop :=
  t.tx = if t.out.txValid = true ∧ s.pins.txReady = true ∧ s.pins.txErr = false then s.tx ++ [t.out.txData] else s.tx

theorem transferOk_of_quiet {s t : State} (hvalid : t.out.txValid = false) (htx : t.tx = s.tx) : TransferOk s t := by
  simp [TransferOk, hvalid, htx]

theorem transferOk_of_error {s t : State} (herr : s.pins.txErr = true) (htx : t.tx = s.tx) : TransferOk s t := by
  simp [TransferOk, herr, htx]

theorem transferOk_of_stall {s t : State} (hready : s.pins.txReady = false) (htx : t.tx = s.tx) : TransferOk s t := by
  simp [TransferOk, hready, htx]

theorem transferOk_of_ready {s t : State} (hvalid : t.out.txValid = true) (herr : s.pins.txErr = false)
    (hready : s.pins.txReady = true) (htx : t.tx = s.tx ++ [t.out.txData]) : TransferOk s t := by
  simp [TransferOk, hvalid, herr, hready, htx]

theorem blockOp_transfer {op : BlockOp} {s t : State} (h : op.act s = .next t) : TransferOk s t := by
  rcases blockOp_cases h with hkept | ⟨c, -, hsend⟩ | ⟨-, hclr⟩
  · exact transferOk_of_quiet hkept.txValid hkept.tx
  · rcases evalSend_cases c s with ⟨-, e⟩ | ⟨-, herr, e⟩ | ⟨-, herr, hready, e⟩ | ⟨-, -, hready, e⟩ <;>
      cases e.symm.trans hsend
    · exact transferOk_of_quiet rfl rfl
    · exact transferOk_of_error herr rfl
    · exact transferOk_of_ready rfl herr hready rfl
    · exact transferOk_of_stall hready rfl
  · cases hclr
    exact transferOk_of_quiet rfl rfl

theorem hostStep_transfer {op : BlockOp} {s t : State} (h : hostStep op.rejects op.act s = .next t) :
    TransferOk s t := by
  apply hostStep_rule (TransferOk s) op.rejects op.act s t h
  case op => exact fun _ hact => blockOp_transfer hact
  case writeErr => exact fun _ _ herr => transferOk_of_error herr rfl
  case write => exact fun _ _ herr hready => transferOk_of_ready rfl herr hready rfl
  case stall => exact fun _ _ _ hready => transferOk_of_stall hready rfl
  all_goals intros; exact transferOk_of_quiet rfl rfl

/-- Settles O43, for the host step that the instruction makes. -/
theorem transferExactlyWhenReady : Obligations.TransferExactlyWhenReady := by
  unfold Obligations.TransferExactlyWhenReady
  intro i s t h
  obtain ⟨op, -, e⟩ := exec_eq_hostStep i s
  have htransfer : TransferOk (withLine (lineBytes i) s) t := hostStep_transfer (e.symm.trans h)
  exact htransfer

/-- R46, R129 of one step over the queue as the line has filled it: the oldest byte is popped, in AWAIT, or none is. -/
def PopOk (s t : State) : Prop :=
  if t.out.rxPop = true then s.regs.hs = .await ∧ t.out.rdOwn = true ∧ ∃ b, s.rx = b :: t.rx else t.rx = s.rx

theorem popOk_of_noPop {s t : State} (hpop : t.out.rxPop = false) (hrx : t.rx = s.rx) : PopOk s t := by
  simp [PopOk, hpop, hrx]

theorem blockOp_noPop {op : BlockOp} {s t : State} (h : op.act s = .next t) : t.out.rxPop = false ∧ t.rx = s.rx := by
  cases op with
  | quiet | clr | refuse | dec len f => cases h; exact ⟨rfl, rfl⟩
  | enc c => rcases takeEnc_cases c s with ⟨-, e⟩ | ⟨-, e⟩ <;> cases e.symm.trans h <;> exact ⟨rfl, rfl⟩
  | send c =>
    rcases evalSend_cases c s with ⟨-, e⟩ | ⟨-, -, e⟩ | ⟨-, -, -, e⟩ | ⟨-, -, -, e⟩ <;> cases e.symm.trans h <;>
      exact ⟨rfl, rfl⟩

theorem hostStep_pop {op : BlockOp} {s t : State} (h : hostStep op.rejects op.act s = .next t) : PopOk s t := by
  apply hostStep_rule (PopOk s) op.rejects op.act s t h
  case op =>
    intro _ hact
    obtain ⟨hpop, hrx⟩ := blockOp_noPop hact
    exact popOk_of_noPop hpop hrx
  case byte =>
    intro hawait b rest hrx
    have hown : (s.regs.hs == HState.await) = true := by rw [hawait]; rfl
    exact ⟨hawait, hown, b, hrx⟩
  all_goals intros; exact popOk_of_noPop rfl rfl

/-- Settles O44: the queue of the host step is the older bytes and then the line's. -/
theorem popOnlyInAwait : Obligations.PopOnlyInAwait := by
  unfold Obligations.PopOnlyInAwait
  intro i s t h
  obtain ⟨op, -, e⟩ := exec_eq_hostStep i s
  have hpop : PopOk (withLine (lineBytes i) s) t := hostStep_pop (e.symm.trans h)
  exact hpop

theorem paramsValid_iff (p : Params) : paramsValid p = true ↔
    1 ≤ p.attemptTicks ∧ p.attemptTicks ≤ 65535 ∧ 1 ≤ p.maxAttempts ∧ p.maxAttempts ≤ 65535 := decide_eq_true_iff

theorem blockOp_total (op : BlockOp) (s : State) : ∃ t, op.act s = .next t := by
  cases op with
  | quiet | clr | refuse | dec len f => exact ⟨_, rfl⟩
  | enc c => rcases takeEnc_cases c s with ⟨-, e⟩ | ⟨-, e⟩ <;> exact ⟨_, e⟩
  | send c => rcases evalSend_cases c s with ⟨-, e⟩ | ⟨-, -, e⟩ | ⟨-, -, -, e⟩ | ⟨-, -, -, e⟩ <;> exact ⟨_, e⟩

/-- A counted tick in AWAIT under parameters out of their range: the one stop there is (V8). -/
def FaultingTick (s : State) : Prop :=
  s.regs.hs = .await ∧ s.rx = [] ∧ s.pins.tick = true ∧ paramsValid s.cfg = false

theorem hostStep_faults {s : State} (h : FaultingTick s) (rej : Bool) (act : State → Result) :
    hostStep rej act s = .fault .configOutOfRange := by
  obtain ⟨hawait, hrx, htick, hcfg⟩ := h
  rw [hostStep, hawait]
  simp [awaitStep, hrx, htick, hcfg]

theorem hostStep_total {s : State} (h : ¬ FaultingTick s) (op : BlockOp) :
    ∃ t, hostStep op.rejects op.act s = .next t := by
  rcases hostStep_cases op.rejects op.act s with ⟨hawait, e⟩ | ⟨-, e⟩ | ⟨-, e⟩ <;> rw [e]
  · rcases awaitStep_cases op.rejects s with ⟨_, _, -, e⟩ | ⟨-, -, -, e⟩ | ⟨hrx, htick, hcfg, -⟩ | ⟨-, -, e⟩
    · exact ⟨_, e⟩
    · exact ⟨_, e⟩
    · exact absurd ⟨hawait, hrx, htick, hcfg⟩ h
    · exact ⟨_, e⟩
  · rcases xmitStep_cases op.rejects s with ⟨-, -, e⟩ | ⟨-, -, -, e⟩ | ⟨-, -, -, e⟩ | ⟨-, -, e⟩ | ⟨-, -, -, e⟩ |
      ⟨-, -, -, e⟩ <;> exact ⟨_, e⟩
  · exact blockOp_total op s

theorem exec_faults {i : Instr} {s : State} (h : FaultingTick (withLine (lineBytes i) s)) :
    exec i s = .fault .configOutOfRange := by
  obtain ⟨op, -, e⟩ := exec_eq_hostStep i s
  rw [e]
  exact hostStep_faults h _ _

theorem exec_total {i : Instr} {s : State} (h : ¬ FaultingTick (withLine (lineBytes i) s)) :
    ∃ t, exec i s = .next t := by
  obtain ⟨op, -, e⟩ := exec_eq_hostStep i s
  rw [e]
  exact hostStep_total h op

/-- Settles O41: an instruction stops at a faulting tick, seen over the queue as the line has filled it, and only there. -/
theorem everyInstructionCompletes : Obligations.EveryInstructionCompletes := by
  unfold Obligations.EveryInstructionCompletes
  refine ⟨fun i s h1 h2 h3 h4 => exec_total ?_, fun i s r h => ?_, fun i s hinq hack hawait hrx htick hrange =>
    exec_faults ?_, fun i s r h => ?_⟩
  · rintro ⟨-, -, -, hcfg⟩
    cases hcfg.symm.trans ((paramsValid_iff s.cfg).mpr ⟨h1, h2, h3, h4⟩)
  · by_cases hfault : FaultingTick (withLine (lineBytes i) s)
    · obtain ⟨hawait, hrx, htick, -⟩ := hfault
      obtain ⟨hempty, -⟩ := List.append_eq_nil_iff.mp hrx
      exact ⟨hawait, hempty, htick⟩
    · obtain ⟨t, ht⟩ := exec_total hfault
      cases ht.symm.trans h
  · rw [lineBytes_eq_nil hinq hack, withLine_nil]
    exact ⟨hawait, hrx, htick, Bool.eq_false_iff.mpr fun hcfg => hrange ((paramsValid_iff s.cfg).mp hcfg)⟩
  · by_cases hfault : FaultingTick (withLine (lineBytes i) s)
    · cases (exec_faults hfault).symm.trans h
    · obtain ⟨t, ht⟩ := exec_total hfault
      cases ht.symm.trans h

end Sys2Proof.Machine
end

section
/-! PROOFS. The frame of a busy step and of a step that is not busy (spec/42_handshake.md R121, R137): while busy the
codec's registers stand still, otherwise the handshake does, SEND and CLR apart. -/

namespace Sys2Proof.Machine

/-- `r'` keeps the telegram, the accumulator, the error mask and the decode registers of `r`. -/
structure CodecKept (r r' : Regs) : Prop where
  tb : r'.tb = r.tb
  tbValid : r'.tbValid = r.tbValid
  ckacc : r'.ckacc = r.ckacc
  encErr : r'.encErr = r.encErr
  decErr : r'.decErr = r.decErr
  dcmdValid : r'.dcmdValid = r.dcmdValid
  dgrp : r'.dgrp = r.dgrp
  dchan : r'.dchan = r.dchan
  dact : r'.dact = r.dact

theorem judgeReply_keeps_codec (b : Byte) (r : Regs) : CodecKept r (judgeReply b r) := by
  rcases judgeReply_cases b r with ⟨-, e⟩ | ⟨-, e⟩ <;> rw [e] <;>
    exact ⟨rfl, rfl, rfl, rfl, rfl, rfl, rfl, rfl, rfl⟩

theorem tickRegs_keeps_codec (p : Params) (r : Regs) : CodecKept r (tickRegs p r) := by
  rcases tickRegs_cases p r with ⟨-, e⟩ | ⟨-, -, e⟩ | ⟨-, -, e⟩ <;> rw [e] <;>
    exact ⟨rfl, rfl, rfl, rfl, rfl, rfl, rfl, rfl, rfl⟩

theorem hostStep_keeps_codec {rej : Bool} {act : State → Result} {s t : State} (hbusy : Busy s)
    (h : hostStep rej act s = .next t) : CodecKept s.regs t.regs := by
  apply hostStep_rule (fun u => CodecKept s.regs u.regs) rej act s t h
  case byte => exact fun _ b _ _ => judgeReply_keeps_codec b s.regs
  case tick => exact fun _ _ _ _ => tickRegs_keeps_codec s.cfg s.regs
  case op => exact fun hfree => by cases hbusy.symm.trans hfree
  all_goals intros; exact ⟨rfl, rfl, rfl, rfl, rfl, rfl, rfl, rfl, rfl⟩

/-- Settles O28: a busy step is the state machine's, which writes only the handshake. -/
theorem telegramFixedWhileBusy : Obligations.TelegramFixedWhileBusy := by
  unfold Obligations.TelegramFixedWhileBusy
  intro i s t hbusy h
  obtain ⟨op, -, e⟩ := exec_eq_hostStep i s
  have hline : Busy (withLine (lineBytes i) s) := hbusy
  obtain ⟨tb, tbValid, ckacc, encErr, decErr, dcmdValid, dgrp, dchan, dact⟩ :=
    hostStep_keeps_codec hline (e.symm.trans h)
  exact ⟨tb, tbValid, ckacc, encErr, decErr, dcmdValid, dgrp, dchan, dact⟩

/-- Settles O29: an instruction that is neither SEND nor CLR evaluates an operation that keeps the handshake. -/
theorem onlySendAndClrTouchHandshake : Obligations.OnlySendAndClrTouchHandshake := by
  unfold Obligations.OnlySendAndClrTouchHandshake
  intro i s t hfree hsend hclr h
  obtain ⟨op, hop, e⟩ := exec_eq_hostStep i s
  have hact : op.act (withLine (lineBytes i) s) = .next t := by
    rw [← hostStep_notBusy op.rejects op.act _ (by exact hfree), ← e, h]
  have hkept := blockOp_keeps (fun c hc => hsend c (hop.send c hc)) (fun hc => hclr (hop.clr hc)) hact
  exact ⟨hkept.hs, hkept.reason, hkept.txidx, hkept.attTmr, hkept.attCnt, hkept.tx, hkept.txValid, hkept.txFlush⟩

theorem execNop_opRej_eq_false {s t : State} (h : execNop s = .next t) : t.out.opRej = false := by
  apply hostStep_rule (fun u => u.out.opRej = false) false quietStep s t h
  case op => intro _ hquiet; cases hquiet; rfl
  all_goals intros; rfl

/-- A refused operation's step is NOP's with `op_rej` beside it (R121). -/
theorem exec_eq_withRejection_of_busy {i : Instr} {s : State} (hbusy : Busy s) (hnop : i ≠ .nop) (hinq : i ≠ .inq)
    (hack : i ≠ .ack) : exec i s = withRejection (exec .nop s) := by
  obtain ⟨op, hop, e⟩ := exec_eq_hostStep i s
  rw [e, hop.rejects.mpr ⟨hnop, hinq, hack⟩, lineBytes_eq_nil hinq hack, withLine_nil, exec_nop_eq_hostStep]
  exact hostStep_true_eq_withRejection_of_busy op.act quietStep hbusy

/-- Settles O27: the refusal reaches `op_rej` alone, and NOP drives neither answer. -/
theorem busyRefusesOperations : Obligations.BusyRefusesOperations := by
  unfold Obligations.BusyRefusesOperations
  intro i s hbusy hnop hinq hack
  exact ⟨exec_eq_withRejection_of_busy hbusy hnop hinq hack,
    fun t h => ⟨execNop_opAck_eq_false h, execNop_opRej_eq_false h⟩⟩

end Sys2Proof.Machine
end

section
/-! PROOFS. The host operations NOP, ENC, DEC and SEND in a state that is not busy (spec/40_codec.md R96, R100,
spec/42_handshake.md R122, R124, R139): the dispatch evaluates the operation, and the shared operation that it calls
gives the registers cell by cell. -/

namespace Sys2Proof.Machine

/-- Settles O19: the code alone decodes to NOP, and the dispatch evaluates the quiet step. -/
theorem nopChangesNothing : Obligations.NopChangesNothing := by
  unfold Obligations.NopChangesNothing
  exact ⟨fun _ hop => decodeHop_nop hop, fun s hfree => hostStep_notBusy false quietStep s hfree⟩

/-- `build()` of R122 with the cells of R92 written out. -/
theorem buildTelegram_eq (c : Command) (r : Regs) : buildTelegram c r = { r with
    tb := ⟨0x55, 0x16, 0x00, devbyte c, 0x01, 0x00, 0x00, 0x00, 0x00, 0x00, 0x94 - devbyte c, 0xAA⟩
    tbValid := true
    ckacc := 0x6C + devbyte c
    encErr := 0 } := by
  rw [buildTelegram, sum8_beforeChecksum_frameOf, frameOf_eq]

theorem takeEnc_good {c : Command} (hgood : GoodOperands c) (s : State) :
    takeEnc c s = .next { s with regs := buildTelegram c s.regs, ckWritten := true, out := Acked s } := by
  rw [takeEnc, codecEncode_good hgood]
  rfl

theorem takeEnc_bad {c : Command} (hbad : ¬ GoodOperands c) (s : State) :
    takeEnc c s = .next { s with regs := { s.regs with encErr := encCheck c }, out := Acked s } := by
  rw [takeEnc, codecEncode_invalid c (encCheck_ne_zero_of_bad hbad)]
  rfl

theorem exec_enc_of_notBusy (c : Command) {s : State} (h : NotBusy s) : exec (.enc c) s = takeEnc c s :=
  hostStep_notBusy true (takeEnc c) s h

/-- Settles O20, by the mask of causes: the telegram's cells, or the mask. -/
theorem encBuildsOrReports : Obligations.EncBuildsOrReports := by
  unfold Obligations.EncBuildsOrReports
  refine ⟨fun h hop => decodeHop_enc hop, fun c s hbusy => exec_eq_withRejection_of_busy hbusy nofun nofun nofun,
    fun c s hfree => ?_⟩
  rw [exec_enc_of_notBusy c hfree]
  refine ⟨fun hgood => ?_, fun hbad => takeEnc_bad hbad s, fun hgood t ht => ?_⟩
  · rw [takeEnc_good hgood, buildTelegram_eq]
  · rw [takeEnc_good hgood] at ht
    cases ht
    exact ⟨rfl, congrArg some (sum8_beforeChecksum_frameOf c)⟩

theorem codecDecode_of_length_ne {len : BitVec Config.decLenW} (h : len ≠ 12) (f : Frame) :
    codecDecode len.toNat f = .decodeError .length := by
  have hlen : len.toNat ≠ 12 := fun heq => h (BitVec.eq_of_toNat_eq heq)
  rw [codecDecode_checks, if_pos hlen]

/-- The accumulator after a DEC of length 12 (R100): the cells 0 to 10, added up. -/
theorem sum8_beforeTerminator (f : Frame) : sum8 (Frame.beforeTerminator f) =
    f.b0 + f.b1 + f.b2 + f.b3 + f.b4 + f.b5 + f.b6 + f.b7 + f.b8 + f.b9 + f.b10 := by
  simp [Frame.beforeTerminator, Frame.elements, BitVec.add_assoc]

theorem length_eq_12_iff (len : BitVec Config.decLenW) : len.toNat = Config.frameLen ↔ len = 12 :=
  BitVec.toNat_inj (y := 12)

theorem decodeInto_of_command {len : Nat} {f : Frame} {c : Command} (h : codecDecode len f = .command c) (r : Regs) :
    decodeInto len f r = { r with
      ckacc := sum8 (Frame.beforeTerminator f), decErr := .ok, dcmdValid := true
      dgrp := c.grp, dchan := c.chan, dact := c.act } := by
  have hlen : len = Config.frameLen := length_of_codecDecode_command h
  simp only [decodeInto, h, if_pos hlen]

theorem decodeInto_of_error {len : Nat} {f : Frame} {e : DecErr} (h : codecDecode len f = .decodeError e) (r : Regs) :
    decodeInto len f r = { r with
      ckacc := if len = Config.frameLen then sum8 (Frame.beforeTerminator f) else r.ckacc
      decErr := e, dcmdValid := false } := by
  simp only [decodeInto, h]

theorem takeDec_eq (len : BitVec Config.decLenW) (f : Frame) (s : State) : takeDec len f s = .next { s with
    regs := decodeInto len.toNat f s.regs
    ckWritten := s.ckWritten || decide (len = 12)
    decTaken := true
    out := Acked s } := by
  simp only [takeDec, length_eq_12_iff]
  rfl

theorem exec_dec_of_notBusy (len : BitVec Config.decLenW) (f : Frame) {s : State} (h : NotBusy s) :
    exec (.dec len f) s = takeDec len f s :=
  hostStep_notBusy true (takeDec len f) s h

/-- Settles O21: the registers by the result that `decode` gives. -/
theorem decRecordsResult : Obligations.DecRecordsResult := by
  unfold Obligations.DecRecordsResult
  refine ⟨fun h hop => decodeHop_dec hop, fun len f hlen => codecDecode_of_length_ne hlen f, fun f => rfl,
    fun len f s hbusy => exec_eq_withRejection_of_busy hbusy nofun nofun nofun, fun len f s hfree => ?_⟩
  rw [exec_dec_of_notBusy len f hfree, takeDec_eq]
  refine ⟨?_, fun t ht => ?_⟩
  · cases hres : codecDecode len.toNat f with
    | command c => rw [decodeInto_of_command hres, sum8_beforeTerminator]
    | decodeError e => simp only [decodeInto_of_error hres, sum8_beforeTerminator, length_eq_12_iff]
  · cases ht
    refine ⟨fun c hres => ?_, fun e hres => ?_, fun hlen => ?_⟩
    · rw [hostReadDecoded, decodeInto_of_command hres]
      rfl
    · rw [hostReadDecoded, decodeInto_of_error hres]
      rfl
    · simp [hostReadCkacc, hlen]

theorem exec_send_of_notBusy (c : Command) {s : State} (h : NotBusy s) : exec (.send c) s = evalSend c s :=
  hostStep_notBusy true (evalSend c) s h

theorem evalSend_invalid {c : Command} (hbad : ¬ GoodOperands c) (s : State) : evalSend c s = .next { s with
    regs := { s.regs with encErr := encCheck c, hs := .idle, reason := .none, txidx := 0 }
    out := Acked s } := by
  rw [evalSend, codecEncode_invalid c (encCheck_ne_zero_of_bad hbad)]
  rfl

/-- Settles O22: the mask is recorded and the handshake ended before the port is looked at. -/
theorem sendInvalidLeavesIdle : Obligations.SendInvalidLeavesIdle := by
  unfold Obligations.SendInvalidLeavesIdle
  intro c s hfree hbad
  rw [exec_send_of_notBusy c hfree, evalSend_invalid hbad]

theorem evalSend_good {c : Command} (hgood : GoodOperands c) (s : State) : evalSend c s = offerInq c s := by
  rw [evalSend, codecEncode_good hgood]

/-- The offer of INQ is transferred (R122). -/
theorem offerInq_transferred (c : Command) {s : State} (herr : s.pins.txErr = false) (hready : s.pins.txReady = true) :
    offerInq c s = .next { s with
      regs := enterAwait (buildTelegram c s.regs)
      tx := s.tx ++ [0xFA]
      ckWritten := true
      out := { Acked s with txValid := true, txData := 0xFA } } := by
  rw [offerInq, txAnswer, herr, hready]
  rfl

/-- The offer of INQ meets a write error (R124). -/
theorem offerInq_error (c : Command) {s : State} (herr : s.pins.txErr = true) : offerInq c s = .next { s with
      regs := enterFailed .writeErr { buildTelegram c s.regs with txidx := 0 }
      ckWritten := true
      out := { Acked s with txValid := true, txData := 0xFA } } := by
  rw [offerInq, txAnswer, herr]
  rfl

/-- Settles O23: the offer of INQ is transferred. -/
theorem sendStartsHandshake : Obligations.SendStartsHandshake := by
  unfold Obligations.SendStartsHandshake
  refine ⟨fun h hop => decodeHop_send hop, fun c s hfree hgood herr hready => ?_⟩
  rw [exec_send_of_notBusy c hfree, evalSend_good hgood, offerInq_transferred c herr hready, buildTelegram_eq]
  rfl

/-- Settles O25: the error decides the offer before the ready level does. -/
theorem sendWriteErrorFails : Obligations.SendWriteErrorFails := by
  unfold Obligations.SendWriteErrorFails
  intro c s hfree hgood herr
  rw [exec_send_of_notBusy c hfree, evalSend_good hgood, offerInq_error c herr, buildTelegram_eq]
  rfl

end Sys2Proof.Machine
end

section
/-! PROOFS. The rows of the other formats (log entry 1): a command word is an ENC of its row's Command, a telegram a DEC of
length 12, a control byte a NOP over the longer queue. -/

namespace Sys2Proof.Machine

/-- A row whose meaning is the encode of `c` builds the telegram of `c`'s DeviceByte (R91, R92, R112). -/
theorem buildsTelegram_of_command {i : Instr} {c : Command} {d acc k : Byte}
    (hexec : ∀ s, exec i s = hostStep true (takeEnc c) s) (hmask : encCheck c = 0) (hd : devbyte c = d)
    (hacc : 0x6C + d = acc) (hk : 0x94 - d = k) : BuildsTelegram i d acc k := by
  intro s hfree
  have hgood : GoodOperands c := (encCheck_eq_zero_iff_goodOperands c).mp hmask
  rw [hexec, hostStep_notBusy true (takeEnc c) s hfree, takeEnc_good hgood, buildTelegram_eq, hd, hacc, hk]

/-- Settles O30, row by row: the Command of the row, its DeviceByte, its ten-byte sum and its checksum are closed. -/
theorem commandWordsGroupA : Obligations.CommandWordsGroupA := by
  unfold Obligations.CommandWordsGroupA
  refine ⟨?_, ?_, ?_, ?_, ?_, ?_, ?_, ?_, ?_, ?_, ?_, ?_, ?_, ?_, ?_, ?_⟩ <;>
    exact buildsTelegram_of_command (fun _ => rfl) rfl rfl rfl rfl

/-- Settles O31, row by row like group A. -/
theorem commandWordsGroupB : Obligations.CommandWordsGroupB := by
  unfold Obligations.CommandWordsGroupB
  refine ⟨?_, ?_, ?_, ?_, ?_, ?_, ?_, ?_, ?_, ?_, ?_, ?_, ?_, ?_, ?_, ?_⟩ <;>
    exact buildsTelegram_of_command (fun _ => rfl) rfl rfl rfl rfl

/-- Settles O32, row by row like group A. -/
theorem commandWordsGroupC : Obligations.CommandWordsGroupC := by
  unfold Obligations.CommandWordsGroupC
  refine ⟨?_, ?_, ?_, ?_, ?_, ?_, ?_, ?_, ?_, ?_, ?_, ?_, ?_, ?_, ?_, ?_⟩ <;>
    exact buildsTelegram_of_command (fun _ => rfl) rfl rfl rfl rfl

/-- The residue of a telegram: what its checksum cell is above the right checksum (R92, R112). -/
theorem sum8_telegramFrame (fn g : BitVec 2) (ccc : BitVec 3) (k : Byte) :
    sum8 (Frame.beforeTerminator (telegramFrame fn g ccc k)) = k - (0x94 - fieldsDevb fn g ccc) := by
  rw [sum8_beforeTerminator]
  show 0x55 + 0x16 + 0x00 + fieldsDevb fn g ccc + 0x01 + 0x00 + 0x00 + 0x00 + 0x00 + 0x00 + k = _
  bv_omega

/-- The checks of R98 on a telegram: only the checksum and the DeviceByte can fail. -/
theorem codecDecode_telegramFrame {fn g : BitVec 2} (hfn : fn = 0b01 ∨ fn = 0b10) (ccc : BitVec 3) (k : Byte) :
    codecDecode 12 (telegramFrame fn g ccc k) =
      if k ≠ 0x94 - fieldsDevb fn g ccc then .decodeError .checksum
      else if g = 3 then .decodeError .devbyte
      else .command ⟨g, ccc.setWidth 4 + 1, fn⟩ := by
  have hsum : sum8 ((Frame.elements (telegramFrame fn g ccc k)).take 11) ≠ 0 ↔ k ≠ 0x94 - fieldsDevb fn g ccc := by
    have hres : sum8 ((Frame.elements (telegramFrame fn g ccc k)).take 11) = k - (0x94 - fieldsDevb fn g ccc) :=
      sum8_telegramFrame fn g ccc k
    rw [hres]
    exact not_congr sub_eq_zero
  have hvalid : validDevbyte (fieldsDevb fn g ccc) = false ↔ g = 3 := by
    rw [← Bool.not_eq_true, validDevbyte_fieldsDevb_iff, not_and, not_not]
    exact ⟨fun h => h hfn, fun h _ => h⟩
  rw [codecDecode_checks, if_neg (by decide), if_neg (by simp [telegramFrame]), if_neg (by simp [telegramFrame])]
  refine ite_congr (propext hsum) (fun _ => rfl) fun _ => ?_
  rw [if_neg (by simp [telegramFrame, Frame.elements])]
  exact if_congr hvalid rfl (congrArg DecResult.command (cmdOfDevbyte_fieldsDevb fn g ccc))

/-- The registers after a telegram (R100): the residue in the accumulator, and the result of the two checks. -/
theorem decodeInto_telegramFrame {fn g : BitVec 2} (hfn : fn = 0b01 ∨ fn = 0b10) (ccc : BitVec 3) (k : Byte) (r : Regs) :
    decodeInto 12 (telegramFrame fn g ccc k) r =
      if k ≠ 0x94 - fieldsDevb fn g ccc then
        { r with ckacc := k - (0x94 - fieldsDevb fn g ccc), decErr := .checksum, dcmdValid := false }
      else if g = 3 then { r with ckacc := 0, decErr := .devbyte, dcmdValid := false }
      else { r with
        ckacc := 0, decErr := .ok, dcmdValid := true, dgrp := g, dchan := ccc.setWidth 4 + 1, dact := fn } := by
  have hres := codecDecode_telegramFrame (g := g) hfn ccc k
  have hsum := sum8_telegramFrame fn g ccc k
  have hlen : 12 = Config.frameLen := rfl
  by_cases hk : k = 0x94 - fieldsDevb fn g ccc
  · have hzero : sum8 (Frame.beforeTerminator (telegramFrame fn g ccc k)) = 0 := hsum.trans (sub_eq_zero.mpr hk)
    rw [if_neg (not_not.mpr hk)] at hres ⊢
    by_cases hg : g = 3
    · rw [if_pos hg] at hres ⊢
      rw [decodeInto_of_error hres, if_pos hlen, hzero]
    · rw [if_neg hg] at hres ⊢
      rw [decodeInto_of_command hres, hzero]
  · rw [if_pos hk] at hres ⊢
    rw [decodeInto_of_error hres, if_pos hlen, hsum]

theorem takeDec_12_eq (f : Frame) (s : State) : takeDec 12 f s = .next { s with
    regs := decodeInto 12 f s.regs, ckWritten := true, decTaken := true, out := Acked s } := by
  rw [takeDec_eq, decide_eq_true rfl, Bool.or_true]
  rfl

/-- Settles O33: both patterns are presented to the decoder alike. -/
theorem telegramsDecode : Obligations.TelegramsDecode := by
  unfold Obligations.TelegramsDecode
  intro g c k s hfree i act hi
  have hact : act = 0b01 ∨ act = 0b10 := hi.imp And.right And.right
  have hexec : exec i s = hostStep true (takeDec 12 (telegramFrame act g c k)) s := by
    rcases hi with ⟨rfl, rfl⟩ | ⟨rfl, rfl⟩ <;> rfl
  rw [hexec, hostStep_notBusy true _ s hfree, takeDec_12_eq, decodeInto_telegramFrame hact]
  rfl

/-- Settles O34: nothing but the queue is touched while no handshake is on. -/
theorem controlBytesWaitInPort : Obligations.ControlBytesWaitInPort := by
  unfold Obligations.ControlBytesWaitInPort
  exact fun s hfree => ⟨hostStep_receive_notBusy _ s hfree, hostStep_receive_notBusy _ s hfree⟩

end Sys2Proof.Machine
end

section
/-! PROOFS. NOP's step in AWAIT and XMIT (spec/42_handshake.md R129 to R136): the state machine's own. -/

namespace Sys2Proof.Machine

theorem hostStep_await (rej : Bool) (act : State → Result) {s : State} (h : s.regs.hs = .await) :
    hostStep rej act s = awaitStep rej s := by
  rw [hostStep, h]

/-- AWAIT pops the oldest byte and judges it (R129, R130). -/
theorem awaitStep_byte (rej : Bool) {s : State} {b : Byte} {rest : List Byte} (h : s.rx = b :: rest) :
    awaitStep rej s = .next { s with
      regs := if b = 0x05 then { s.regs with hs := .xmit }
        else { s.regs with hs := .failed, reason := .unexpected }
      rx := rest
      out := { BusyOutputs rej s with rxPop := true } } := by
  rw [awaitStep, h]
  rfl

theorem awaitStep_tick (rej : Bool) {s : State} (hrx : s.rx = []) (htick : s.pins.tick = true)
    (hcfg : paramsValid s.cfg = true) :
    awaitStep rej s = .next { s with regs := tickRegs s.cfg s.regs, out := BusyOutputs rej s } := by
  simp only [awaitStep, hrx, htick, hcfg]
  rfl

theorem awaitStep_wait (rej : Bool) {s : State} (hrx : s.rx = []) (htick : s.pins.tick = false) :
    awaitStep rej s = .next { s with out := BusyOutputs rej s } := by
  simp only [awaitStep, hrx, htick]
  rfl

/-- Settles O36: the queue is looked at before the tick. -/
theorem awaitJudgesOldestByte : Obligations.AwaitJudgesOldestByte := by
  unfold Obligations.AwaitJudgesOldestByte
  intro s b rest hawait hrx
  rw [exec_nop_eq_hostStep, hostStep_await false quietStep hawait, awaitStep_byte false hrx]

/-- Settles O37: with an empty queue a tick is counted. -/
theorem awaitCountsTick : Obligations.AwaitCountsTick := by
  unfold Obligations.AwaitCountsTick
  intro s hawait hrx htick h1 h2 h3 h4
  have hcfg : paramsValid s.cfg = true := (paramsValid_iff s.cfg).mpr ⟨h1, h2, h3, h4⟩
  rw [exec_nop_eq_hostStep, hostStep_await false quietStep hawait, awaitStep_tick false hrx htick hcfg]
  rfl

/-- The flush phase by the port's two levels: an error beats the end of the flush (R136). -/
theorem flushPhase_eq_ite (rej : Bool) (s : State) :
    flushPhase rej s =
      if s.pins.txErr = true then .next { s with
        regs := { s.regs with hs := .failed, reason := .writeErr }
        out := { BusyOutputs rej s with txFlush := true } }
      else if s.pins.flushDone = true then .next { s with
        regs := { s.regs with hs := .complete }
        out := { BusyOutputs rej s with txFlush := true } }
      else .next { s with out := { BusyOutputs rej s with txFlush := true } } := by
  unfold flushPhase flushAnswer
  cases s.pins.txErr with
  | true => rfl
  | false => cases s.pins.flushDone <;> rfl

/-- Settles O40: NOP in XMIT at index 12 is the flush phase. -/
theorem xmitFlushPhase : Obligations.XmitFlushPhase := by
  unfold Obligations.XmitFlushPhase
  intro s hxmit hindex
  have hflush : xmitStep false s = flushPhase false s := if_neg (by rw [hindex]; decide)
  rw [exec_nop_eq_hostStep, hostStep_xmit false quietStep hxmit, hflush, flushPhase_eq_ite]

/-- Behind an older byte a longer queue changes nothing but itself (R228). -/
theorem awaitStep_longer_queue {s : State} {b : Byte} {rest : List Byte} (h : s.rx = b :: rest) :
    ∃ t, awaitStep false s = .next t ∧ t.rx = rest ∧
      ∀ more, awaitStep false { s with rx := s.rx ++ more } = .next { t with rx := rest ++ more } :=
  ⟨_, awaitStep_byte false h, rfl, fun more => awaitStep_byte false (rest := rest ++ more) (by rw [h]; rfl)⟩

/-- In XMIT the queue is not looked at (R133). -/
theorem xmitStep_longer_queue (s : State) :
    ∃ t, xmitStep false s = .next t ∧ t.rx = s.rx ∧
      ∀ more, xmitStep false { s with rx := s.rx ++ more } = .next { t with rx := s.rx ++ more } := by
  unfold xmitStep
  split
  · unfold writePhase
    dsimp only
    cases txAnswer s.pins <;> exact ⟨_, rfl, rfl, fun _ => rfl⟩
  · unfold flushPhase
    dsimp only
    cases flushAnswer s.pins <;> exact ⟨_, rfl, rfl, fun _ => rfl⟩

/-- A byte on the line to an empty port is the oldest one (R130, log entry 14). -/
theorem exec_nop_of_await_line {s : State} (hawait : s.regs.hs = .await) (hrx : s.rx = []) (b : Byte) :
    exec .nop { s with rx := s.rx ++ [b] } = .next { s with
      regs := if b = 0x05 then { s.regs with hs := .xmit } else { s.regs with hs := .failed, reason := .unexpected }
      out := { BusyOutputs false s with rxPop := true } } := by
  have hline : { s with rx := s.rx ++ [b] }.rx = [b] := by rw [hrx]; rfl
  rw [exec_nop_eq_hostStep, hostStep_await false quietStep (by exact hawait), awaitStep_byte false hline, ← hrx]
  rfl

/-- Settles O35: the row is a NOP over the longer queue, and the queue's order decides what becomes of the byte. -/
theorem controlBytesJudgedInAwait : Obligations.ControlBytesJudgedInAwait := by
  unfold Obligations.ControlBytesJudgedInAwait
  refine ⟨fun s => ⟨rfl, rfl⟩, fun s hawait hrx => ⟨exec_nop_of_await_line hawait hrx 0x05,
    exec_nop_of_await_line hawait hrx 0xFA⟩, fun s b rest hawait hrx => ?_, fun s hxmit => ?_⟩
  · obtain ⟨t, ht, hrest, hlonger⟩ := awaitStep_longer_queue hrx
    have hstep : ∀ more, exec .nop { s with rx := s.rx ++ more } = .next { t with rx := rest ++ more } := fun more =>
      (hostStep_await false quietStep (by exact hawait)).trans (hlonger more)
    exact ⟨t, (hostStep_await false quietStep hawait).trans ht, hrest, hstep [0xFA], hstep [0x05]⟩
  · obtain ⟨t, ht, hrx, hlonger⟩ := xmitStep_longer_queue s
    have hstep : ∀ more, exec .nop { s with rx := s.rx ++ more } = .next { t with rx := s.rx ++ more } := fun more =>
      (hostStep_xmit false quietStep (by exact hxmit)).trans (hlonger more)
    exact ⟨t, (hostStep_xmit false quietStep hxmit).trans ht, hrx, hstep [0xFA], hstep [0x05]⟩

end Sys2Proof.Machine
end

section
/-! PROOFS. The step of the machine (spec/42_handshake.md R120, R140, R141, spec/10_state.md R26): the decoded instruction,
or the reset step, and then the agents' turn and the next levels, which leave the block alone. -/

namespace Sys2Proof.Machine

theorem envActs_eq_foldl (acts : List EnvAct) (s : State) : envActs acts s = acts.foldl (fun v a => envAct a v) s := by
  induction acts generalizing s with
  | nil => rfl
  | cons a acts ih => exact ih _

theorem nextPins_eq (s : State) : nextPins s = { s with pins := s.script.headD Pins.idle, script := s.script.tail } := by
  unfold nextPins
  split
  next h => simp [h]
  next p rest h => simp [h]

theorem endOfStep_eq (s : State) : endOfStep s = { envActs s.pins.acts s with
    pins := s.script.headD Pins.idle, script := s.script.tail } := by
  rw [endOfStep, nextPins_eq, (envActs_untouched _ s).script]

theorem step_of_decode {s : State} {i : Instr} (hrst : s.pins.rst = false) (h : decode s.pins.word = .ok i) :
    step s = finish (exec i s) := by
  simp [step, fetch, hrst, h]

theorem step_of_reject {s : State} {r : Reject} (hrst : s.pins.rst = false) (h : decode s.pins.word = .error r) :
    step s = finish (execRejected r s) := by
  simp [step, fetch, hrst, h]

/-- Settles O45: the acts are a fold, and what follows it is the next levels. -/
theorem stepRunsDecodedInstruction : Obligations.StepRunsDecodedInstruction := by
  unfold Obligations.StepRunsDecodedInstruction
  refine ⟨fun u => ?_, fun s i hrst hi => ?_⟩
  · rw [endOfStep_eq, envActs_eq_foldl]
  · have hstep := step_of_decode hrst hi
    refine ⟨hstep, fun t ht => ?_, fun r hr => by rw [hstep, hr]; rfl⟩
    exact ⟨by rw [hstep, ht]; rfl, endOfStep_regs t, endOfStep_out t, endOfStep_cfg t, by rw [endOfStep_eq],
      by rw [endOfStep_eq]⟩

theorem lineArrival_rx (s : State) : (lineArrival s).rx = s.rx ++ wordLineBytes s.pins.word := by
  unfold lineArrival
  cases s.pins.word with
  | ctrl b => rfl
  | hop | tgm | devb => exact (List.append_nil _).symm

/-- Settles O46: the reset step over the line's byte, field by field. -/
theorem resetOverridesEverything : Obligations.ResetOverridesEverything := by
  unfold Obligations.ResetOverridesEverything
  intro s hrst
  obtain ⟨u, hu⟩ : ∃ u, resetStep (lineArrival s) = .next u := ⟨_, rfl⟩
  have hstep : step s = .next (endOfStep u) := by rw [step, if_pos hrst, hu]; rfl
  cases hu
  exact ⟨_, hstep, rfl, rfl, rfl, rfl, rfl, rfl, rfl, rfl, rfl, congrArg stateOutputs (lineArrival_regs s),
    lineArrival_rx s, lineArrival_tx s, lineArrival_cfg s, lineArrival_pins s, lineArrival_script s,
    lineArrival_session s, lineArrival_display s, lineArrival_ackOwed s, rfl, rfl, rfl, rfl, rfl⟩

/-- Settles O47: the reset state is a literal. -/
theorem resetStateValues : Obligations.ResetStateValues := by
  unfold Obligations.ResetStateValues
  exact ⟨rfl, rfl, rfl, rfl, rfl, rfl, rfl, rfl, rfl, rfl, rfl, rfl⟩

theorem blockOp_cfg {op : BlockOp} {s t : State} (h : op.act s = .next t) : t.cfg = s.cfg := by
  cases op with
  | quiet | clr | refuse | dec len f => cases h; rfl
  | enc c => rcases takeEnc_cases c s with ⟨-, e⟩ | ⟨-, e⟩ <;> cases e.symm.trans h <;> rfl
  | send c =>
    rcases evalSend_cases c s with ⟨-, e⟩ | ⟨-, -, e⟩ | ⟨-, -, -, e⟩ | ⟨-, -, -, e⟩ <;> cases e.symm.trans h <;> rfl

theorem hostStep_cfg {op : BlockOp} {s t : State} (h : hostStep op.rejects op.act s = .next t) : t.cfg = s.cfg := by
  apply hostStep_rule (fun u => u.cfg = s.cfg) op.rejects op.act s t h
  case op => exact fun _ hact => blockOp_cfg hact
  all_goals intros; rfl

/-- Settles O49: neither the block nor an agent writes the record. -/
theorem parametersNeverChange : Obligations.ParametersNeverChange := by
  unfold Obligations.ParametersNeverChange
  intro s t h
  obtain ⟨u, rfl, ⟨-, hreset⟩ | ⟨-, hblock⟩⟩ := step_reset_or_block h <;> rw [endOfStep_cfg]
  · cases hreset
    exact lineArrival_cfg s
  · obtain ⟨op, -, -, e⟩ := blockStep_eq_hostStep hblock
    have hcfg : u.cfg = (withLine (wordLineBytes s.pins.word) s).cfg := hostStep_cfg e
    exact hcfg

/-- Where SEND leads (R122 to R124): IDLE, FAILED, AWAIT, or nowhere when the port stalls it. -/
theorem evalSend_hs {c : Command} {s t : State} (h : evalSend c s = .next t) :
    t.regs.hs = .idle ∨ t.regs.hs = .await ∨ t.regs.hs = .failed ∨ t.regs.hs = s.regs.hs := by
  rcases evalSend_cases c s with ⟨-, e⟩ | ⟨-, -, e⟩ | ⟨-, -, -, e⟩ | ⟨-, -, -, e⟩ <;> cases e.symm.trans h
  · exact .inl rfl
  · exact .inr (.inr (.inl rfl))
  · exact .inr (.inl rfl)
  · exact .inr (.inr (.inr rfl))

theorem judgeReply_hs (b : Byte) (r : Regs) : (judgeReply b r).hs = .xmit ∨ (judgeReply b r).hs = .failed := by
  rcases judgeReply_cases b r with ⟨-, e⟩ | ⟨-, e⟩ <;> rw [e]
  · exact .inl rfl
  · exact .inr rfl

theorem tickRegs_hs {p : Params} {r : Regs} (h : r.hs = .await) :
    (tickRegs p r).hs = .await ∨ (tickRegs p r).hs = .failed := by
  rcases tickRegs_cases p r with ⟨-, e⟩ | ⟨-, -, e⟩ | ⟨-, -, e⟩ <;> rw [e]
  · exact .inl h
  · exact .inl h
  · exact .inr rfl

/-- The rows of R140 for a busy block. -/
theorem hostStep_busy_hs {rej : Bool} {act : State → Result} {s t : State} (h : hostStep rej act s = .next t) :
    (s.regs.hs = .await → t.regs.hs = .await ∨ t.regs.hs = .xmit ∨ t.regs.hs = .failed) ∧
    (s.regs.hs = .xmit → t.regs.hs = .xmit ∨ t.regs.hs = .complete ∨ t.regs.hs = .failed) := by
  constructor
  · intro hawait
    rw [hostStep_await rej act hawait] at h
    rcases awaitStep_cases rej s with ⟨b, _, -, e⟩ | ⟨-, -, -, e⟩ | ⟨-, -, -, e⟩ | ⟨-, -, e⟩ <;> cases e.symm.trans h
    · exact .inr (judgeReply_hs b s.regs)
    · exact (tickRegs_hs hawait).imp_right .inr
    · exact .inl hawait
  · intro hxmit
    rw [hostStep_xmit rej act hxmit] at h
    rcases xmitStep_cases rej s with ⟨-, -, e⟩ | ⟨-, -, -, e⟩ | ⟨-, -, -, e⟩ | ⟨-, -, e⟩ | ⟨-, -, -, e⟩ |
      ⟨-, -, -, e⟩ <;> cases e.symm.trans h
    · exact .inr (.inr rfl)
    · exact .inl hxmit
    · exact .inl hxmit
    · exact .inr (.inr rfl)
    · exact .inr (.inl rfl)
    · exact .inl hxmit

/-- Settles O50: the rows of a busy block are the state machine's, the others SEND's and CLR's. -/
theorem handshakeTransitions : Obligations.HandshakeTransitions := by
  unfold Obligations.HandshakeTransitions
  intro s t hrst h
  obtain ⟨u, rfl, hblock⟩ := step_block hrst h
  obtain ⟨op, hsend, hclr, e⟩ := blockStep_eq_hostStep hblock
  rw [endOfStep_regs]
  obtain ⟨hawait, hxmit⟩ := hostStep_busy_hs e
  refine ⟨hawait, hxmit, fun hfree hne => ?_⟩
  rw [hostStep_notBusy _ _ _ (by exact hfree)] at e
  rcases blockOp_cases e with hkept | ⟨c, hop, e⟩ | ⟨hop, e⟩
  · exact absurd hkept.hs hne
  · refine .inr ⟨c, hsend c hop, ?_⟩
    rcases evalSend_hs e with hs | hs | hs | hs
    · exact .inl hs
    · exact .inr (.inl hs)
    · exact .inr (.inr hs)
    · exact absurd hs hne
  · cases e
    exact .inl ⟨hclr hop, rfl⟩

/-- Entering XMIT takes a popped ACK at the head of the queue (R130). -/
theorem hostStep_enters_xmit {op : BlockOp} {s t : State} (h : hostStep op.rejects op.act s = .next t)
    (hs : s.regs.hs ≠ .xmit) (ht : t.regs.hs = .xmit) :
    s.regs.hs = .await ∧ t.out.rxPop = true ∧ s.rx.head? = some 0x05 := by
  rcases hostStep_cases op.rejects op.act s with ⟨hawait, e⟩ | ⟨hxmit, -⟩ | ⟨hfree, e⟩
  · rw [e] at h
    rcases awaitStep_cases op.rejects s with ⟨b, _, hrx, e⟩ | ⟨-, -, -, e⟩ | ⟨-, -, -, e⟩ | ⟨-, -, e⟩ <;>
      cases e.symm.trans h
    · rcases judgeReply_cases b s.regs with ⟨rfl, e⟩ | ⟨-, e⟩
      · exact ⟨hawait, rfl, by rw [hrx]; rfl⟩
      · rw [e] at ht
        cases ht
    · rcases tickRegs_hs (p := s.cfg) hawait with hs' | hs' <;> cases hs'.symm.trans ht
    · cases hawait.symm.trans ht
  · exact absurd hxmit hs
  · rw [e] at h
    exfalso
    rcases blockOp_cases h with hkept | ⟨c, -, hsend⟩ | ⟨-, hclr⟩
    · exact hs (hkept.hs.symm.trans ht)
    · rcases evalSend_hs hsend with hs' | hs' | hs' | hs'
      · cases hs'.symm.trans ht
      · cases hs'.symm.trans ht
      · cases hs'.symm.trans ht
      · exact hs (hs'.symm.trans ht)
    · cases hclr
      cases ht

/-- Settles O51: a reset step ends in IDLE, and another step enters XMIT by a popped ACK alone. -/
theorem xmitOnlyAfterAck : Obligations.XmitOnlyAfterAck := by
  unfold Obligations.XmitOnlyAfterAck
  intro s t h hs ht
  obtain ⟨u, rfl, ⟨-, hreset⟩ | ⟨-, hblock⟩⟩ := step_reset_or_block h <;> rw [endOfStep_regs] at ht
  · cases hreset
    cases ht
  · obtain ⟨op, -, -, e⟩ := blockStep_eq_hostStep hblock
    rw [endOfStep_out]
    exact hostStep_enters_xmit e hs ht

/-- Settles O52: without SEND what is evaluated keeps the handshake, or is CLR, which ends it. -/
theorem noRetryWithoutSend : Obligations.NoRetryWithoutSend := by
  unfold Obligations.NoRetryWithoutSend
  intro s t hfree hnosend h
  obtain ⟨u, rfl, ⟨-, hreset⟩ | ⟨-, hblock⟩⟩ := step_reset_or_block h <;> rw [endOfStep_out, NotBusy, endOfStep_regs]
  · cases hreset
    exact ⟨rfl, rfl, rfl⟩
  · obtain ⟨op, hsend, -, e⟩ := blockStep_eq_hostStep hblock
    rw [hostStep_notBusy _ _ _ (by exact hfree)] at e
    rcases blockOp_cases e with hkept | ⟨c, hop, -⟩ | ⟨-, e⟩
    · exact ⟨hkept.txValid, hkept.txFlush, hkept.notBusy hfree⟩
    · exact absurd (hsend c hop) (hnosend c)
    · cases e
      exact ⟨rfl, rfl, rfl⟩

end Sys2Proof.Machine
end

section
/-! PROOFS. Presented words that are no rows of the table (spec/30_encoding.md R66, R69, spec/40_codec.md R100). -/

namespace Sys2Proof.Machine

theorem decodeCtrl_other {b : Byte} (hinq : b ≠ 0xFA) (hack : b ≠ 0x05) : decodeCtrl b = .error (.otherByte b) := by
  rw [decodeCtrl, if_neg hinq, if_neg hack]

theorem step_otherByte {s : State} {b : Byte} (hrst : s.pins.rst = false) (hword : s.pins.word = .ctrl b)
    (hinq : b ≠ 0xFA) (hack : b ≠ 0x05) : step s = finish (exec .nop { s with rx := s.rx ++ [b] }) :=
  step_of_reject (r := .otherByte b) hrst (by rw [hword]; exact decodeCtrl_other hinq hack)

theorem decodeDevb_of_not_valid {d : Byte} (h : validDevbyte d = false) : decodeDevb d = .error (.notDeviceByte d) := by
  cases hd : decodeDevb d with
  | error r => rw [decodeDevb_error hd]
  | ok i => cases h.symm.trans ((decodeDevb_eq_ok_iff_validDevbyte d).mp ⟨i, hd⟩)

/-- Settles O60, a format at a time. -/
theorem otherWordsAct : Obligations.OtherWordsAct := by
  unfold Obligations.OtherWordsAct
  refine ⟨fun s b hrst hword hinq hack => ?_, fun s f hrst hword hother => ?_, fun s d hrst hword hinvalid => ?_⟩
  · have hstep := step_otherByte hrst hword hinq hack
    refine ⟨hstep, fun hawait hrx => ?_, fun hfree => ?_⟩
    · rw [hstep, exec_nop_of_await_line hawait hrx, if_neg hack]
    · rw [hstep, exec_nop_eq_hostStep]
      exact congrArg finish (hostStep_receive_notBusy b s hfree)
  · exact step_of_reject (r := .notTelegram f) hrst (by rw [hword]; exact decodeTgm_eq_error hother)
  · exact step_of_reject (r := .notDeviceByte d) hrst (by rw [hword]; exact decodeDevb_of_not_valid hinvalid)

end Sys2Proof.Machine
end

section
/-! PROOFS. The text form of a Command (spec/30_encoding.md R71, R72). The parser does not see the case of a letter, and
each of the three fields of a string it accepts is printed back in lower case. -/

namespace Sys2Proof.Machine

theorem toNat_ofNat_of_lt {n : Nat} (h : n < 0xD800) : (Char.ofNat n).toNat = n := by
  rw [Char.ofNat, dif_pos (.inl h)]
  rfl

/-- `lower` of R72 in code points. -/
theorem toNat_lowerChar (c : Char) :
    (lowerChar c).toNat = if 65 ≤ c.toNat ∧ c.toNat ≤ 90 then c.toNat + 32 else c.toNat := by
  have hcond : 'A' ≤ c ∧ c ≤ 'Z' ↔ 65 ≤ c.toNat ∧ c.toNat ≤ 90 := Iff.rfl
  rw [lowerChar]
  split
  next h => rw [if_pos (hcond.mp h), toNat_ofNat_of_lt (by have := hcond.mp h; omega)]
  next h => rw [if_neg (fun hn => h (hcond.mpr hn))]

theorem lowerChar_idem (c : Char) : lowerChar (lowerChar c) = lowerChar c := by
  rw [← Char.toNat_inj, toNat_lowerChar, toNat_lowerChar]
  split_ifs <;> omega

theorem digit_iff_toNat (c : Char) : '0' ≤ c ∧ c ≤ '9' ↔ 48 ≤ c.toNat ∧ c.toNat ≤ 57 := Iff.rfl

/-- A digit has no case, and no letter becomes one. -/
theorem digitValue_lowerChar (c : Char) : digitValue (lowerChar c) = digitValue c := by
  simp only [digitValue, digit_iff_toNat, toNat_lowerChar]
  by_cases hupper : 65 ≤ c.toNat ∧ c.toNat ≤ 90
  · rw [if_pos hupper, if_neg (by omega), if_neg (by omega)]
  · rw [if_neg hupper]

theorem parseGroup_map (t : List Char) : parseGroup (t.map lowerChar) = parseGroup t := by
  cases t with
  | nil => rfl
  | cons c t => simp only [List.map_cons, parseGroup, lowerChar_idem]

theorem parseChannel_map (t : List Char) : parseChannel (t.map lowerChar) = parseChannel t := by
  match t with
  | [] => rfl
  | [_] => rfl
  | _ :: c :: _ => exact digitValue_lowerChar c

theorem parseAction_map (t : List Char) : parseAction (t.map lowerChar) = parseAction t := by
  have hidem : (t.map lowerChar).map lowerChar = t.map lowerChar := by
    simp only [List.map_map, Function.comp_def, lowerChar_idem]
  simp only [parseAction, List.map_drop, hidem]

/-- The parser does not see the case of a letter (R72). -/
theorem parseCommand_map (t : List Char) : parseCommand (t.map lowerChar) = parseCommand t := by
  rw [parseCommand, parseGroup_map, parseChannel_map, parseAction_map, parseCommand]

theorem parseGroup_groupLetter {grp : BitVec 2} (h : grp = 0 ∨ grp = 1 ∨ grp = 2) (t : List Char) :
    parseGroup (groupLetter grp :: t) = grp := by
  rcases h with rfl | rfl | rfl <;> rfl

theorem digitValue_digit {chan : BitVec 4} (h : 1 ≤ chan.toNat ∧ chan.toNat ≤ 8) :
    digitValue (Char.ofNat (48 + chan.toNat)) = chan := by
  have hcode : (Char.ofNat (48 + chan.toNat)).toNat = 48 + chan.toNat := toNat_ofNat_of_lt (by omega)
  have hdigit : '0' ≤ Char.ofNat (48 + chan.toNat) ∧ Char.ofNat (48 + chan.toNat) ≤ '9' := by
    rw [digit_iff_toNat, hcode]
    omega
  rw [digitValue, if_pos hdigit, hcode, Nat.add_sub_cancel_left, BitVec.ofNat_toNat, BitVec.setWidth_eq]

theorem parseAction_actionWord {act : BitVec 2} (h : act = 0b01 ∨ act = 0b10) (a b : Char) :
    parseAction (a :: b :: actionWord act) = act := by
  rcases h with rfl | rfl <;> rfl

theorem parseCommand_printCommand {c : Command} (h : GoodOperands c) : parseCommand (printCommand c) = c := by
  obtain ⟨hgrp, hchan, hact⟩ := h
  rw [parseCommand, printCommand, parseGroup_groupLetter hgrp, parseAction_actionWord hact]
  exact congrArg (fun chan => Command.mk c.grp chan c.act) (digitValue_digit hchan)

/-- A group that is parsed is printed as its letter in lower case. -/
theorem groupLetter_parseGroup {c : Char} {t : List Char} (h : parseGroup (c :: t) ≠ 3) :
    groupLetter (parseGroup (c :: t)) = lowerChar c := by
  simp only [parseGroup] at h ⊢
  split_ifs at h ⊢ with ha hb hc
  · rw [ha]; rfl
  · rw [hb]; rfl
  · rw [hc]; rfl
  · exact absurd rfl h

/-- A channel that is parsed is printed as its digit. -/
theorem digit_digitValue {c : Char} (h : 1 ≤ (digitValue c).toNat) :
    Char.ofNat (48 + (digitValue c).toNat) = lowerChar c := by
  by_cases hdigit : '0' ≤ c ∧ c ≤ '9'
  · obtain ⟨hlo, hhi⟩ := (digit_iff_toNat c).mp hdigit
    have hvalue : (digitValue c).toNat = c.toNat - 48 := by
      rw [digitValue, if_pos hdigit, BitVec.toNat_ofNat]
      omega
    rw [← Char.toNat_inj, toNat_lowerChar, if_neg (by omega), hvalue, toNat_ofNat_of_lt (by omega)]
    omega
  · rw [digitValue, if_neg hdigit] at h
    exact absurd h (by decide)

/-- An action that is parsed is printed as its word in lower case. -/
theorem actionWord_parseAction {a b : Char} {t : List Char} (h : parseAction (a :: b :: t) ≠ 0b00) :
    actionWord (parseAction (a :: b :: t)) = t.map lowerChar := by
  unfold parseAction at h ⊢
  split_ifs at h ⊢ with hon hoff
  · exact hon.symm
  · exact hoff.symm
  · exact absurd rfl h

/-- A string whose operands the encoder accepts is canonical but for the case of its letters (R71, R72). -/
theorem map_lowerChar_of_goodOperands {t : List Char} (h : GoodOperands (parseCommand t)) :
    t.map lowerChar = printCommand (parseCommand t) := by
  obtain ⟨hgrp, ⟨hchan, -⟩, hact⟩ := h
  match t with
  | [] => exact absurd ((group_good_iff _).mp hgrp) (by decide)
  | [_] => exact absurd hchan (Nat.not_succ_le_zero 0)
  | a :: b :: t =>
    have hfirst := groupLetter_parseGroup (t := b :: t) ((group_good_iff _).mp hgrp)
    have hsecond := digit_digitValue hchan
    have hrest := actionWord_parseAction ((action_good_iff _).mp hact).1
    rw [List.map_cons, List.map_cons, ← hfirst, ← hsecond, ← hrest]
    rfl

/-- Settles O18: accepted strings are the printed ones up to case, and the parser does not see the case. -/
theorem parsePrintRoundTrip : Obligations.ParsePrintRoundTrip := by
  unfold Obligations.ParsePrintRoundTrip
  refine ⟨fun c hgood => parseCommand_printCommand hgood, fun t hmask => ?_, fun c t hgood ht => ?_, by decide, by decide,
    by decide, by decide⟩
  · exact map_lowerChar_of_goodOperands ((encCheck_eq_zero_iff_goodOperands _).mp hmask)
  · rw [← parseCommand_map, ht, parseCommand_printCommand hgood]

end Sys2Proof.Machine
end

section
/-! PROOFS. Runs in which no byte comes (spec/42_handshake.md R132, R142): one step at a time over the list of levels that
the ports are still to show, idle levels when it is used up. -/

namespace Sys2Proof.Machine

/-- The ports show the first of `l` now and the others in the steps to come. -/
def Presents (l : List Pins) (s : State) : Prop := s.pins = l.headD Pins.idle ∧ s.script = l.tail

theorem presents_self (s : State) : Presents (s.pins :: s.script) s := ⟨rfl, rfl⟩

/-- What holds of all the levels to come and of idle ones holds of the levels now. -/
theorem Presents.pins_of_forall {P : Pins → Prop} {l : List Pins} {s : State} (h : Presents l s) (hidle : P Pins.idle)
    (hl : ∀ p ∈ l, P p) : P s.pins := by
  obtain ⟨hpins, -⟩ := h
  rw [hpins]
  cases l with
  | nil => exact hidle
  | cons p l => exact hl p List.mem_cons_self

/-- `t` is `u` after an agents' turn without acts: the next levels have come to the ports. -/
structure Settled (u t : State) : Prop where
  regs : t.regs = u.regs
  rx : t.rx = u.rx
  tx : t.tx = u.tx
  cfg : t.cfg = u.cfg
  presents : Presents u.script t

theorem settled_endOfStep {u : State} (h : u.pins.acts = []) : Settled u (endOfStep u) := by
  rw [endOfStep_noActs u h]
  exact ⟨rfl, rfl, rfl, rfl, rfl, rfl⟩

theorem noBytePins_idle : NoBytePins Pins.idle := ⟨rfl, rfl, _, rfl⟩

theorem silentPins_idle : SilentPins Pins.idle := ⟨rfl, rfl, _, rfl, rfl⟩

theorem runSteps_add {m : Nat} {s t : State} (h : runSteps m s = .next t) (n : Nat) :
    runSteps (m + n) s = runSteps n t := by
  induction m generalizing s with
  | zero => cases h; rw [Nat.zero_add]
  | succ m ih =>
    cases hstep : step s with
    | next u =>
      rw [runSteps_succ m s u hstep] at h
      rw [Nat.succ_add, runSteps_succ (m + n) s u hstep, ih h]
    | fault r => simp [runSteps, Host.Core.run, hstep] at h
    | refused r => simp [runSteps, Host.Core.run, hstep] at h

/-- A host operation at the ports, reserved codes among them, makes a host step over the queue as it is. -/
theorem step_hop {s : State} {p : HostPorts} (hrst : s.pins.rst = false) (hword : s.pins.word = .hop p) :
    ∃ op : BlockOp, step s = finish (hostStep op.rejects op.act s) := by
  cases hdecode : decode s.pins.word with
  | ok i =>
    obtain ⟨op, -, e⟩ := exec_eq_hostStep i s
    have hline : lineBytes i = [] := by rw [← wordLineBytes_of_fetch hdecode, hword]; rfl
    exact ⟨op, by rw [step_of_decode hrst hdecode, e, hline, withLine_nil]⟩
  | error r =>
    have hr : r = .reservedOp p.op := by
      rw [hword] at hdecode
      rcases decodeHop_cases p with e | e | e | e | e | e <;> cases e.symm.trans hdecode
      rfl
    exact ⟨.refuse, by rw [step_of_reject hrst hdecode, hr]; rfl⟩

/-- AWAIT with no byte (R131, R132). -/
theorem awaitStep_noByte (rej : Bool) {s : State} (hrx : s.rx = [])
    (hcfg : s.pins.tick = true → paramsValid s.cfg = true) :
    awaitStep rej s = .next { s with
      regs := if s.pins.tick = true then tickRegs s.cfg s.regs else s.regs, out := BusyOutputs rej s } := by
  by_cases htick : s.pins.tick = true
  · rw [awaitStep_tick rej hrx htick (hcfg htick), if_pos htick]
  · rw [awaitStep_wait rej hrx (Bool.eq_false_iff.mpr htick), if_neg htick]

/-- A step in AWAIT in which no byte comes, whatever operation is presented, under a configuration in its range. -/
theorem step_await_noByte {s : State} (hawait : s.regs.hs = .await) (hrx : s.rx = []) (hpins : NoBytePins s.pins)
    (hcfg : s.pins.tick = true → paramsValid s.cfg = true) :
    ∃ t, step s = .next t ∧ Settled { s with
      regs := if s.pins.tick = true then tickRegs s.cfg s.regs else s.regs } t := by
  obtain ⟨hrst, hacts, p, hword⟩ := hpins
  obtain ⟨op, hstep⟩ := step_hop hrst hword
  rw [hostStep_await op.rejects op.act hawait, awaitStep_noByte op.rejects hrx hcfg] at hstep
  obtain ⟨hregs, hrx', htx, hcfg', hnext⟩ := settled_endOfStep (u := { s with
    regs := if s.pins.tick = true then tickRegs s.cfg s.regs else s.regs, out := BusyOutputs op.rejects s }) hacts
  exact ⟨_, hstep, hregs, hrx', htx, hcfg', hnext⟩

/-- Without a byte and without a tick a block in AWAIT stays as it is (R132). -/
theorem await_waits (n : Nat) {l : List Pins} {s : State} (hl : Presents l s) (hawait : s.regs.hs = .await)
    (hrx : s.rx = []) (hquiet : ∀ p ∈ l, NoBytePins p ∧ p.tick = false) :
    ∃ t, runSteps n s = .next t ∧ t.regs = s.regs ∧ t.rx = [] ∧ t.tx = s.tx := by
  induction n generalizing l s with
  | zero => exact ⟨s, rfl, rfl, hrx, rfl⟩
  | succ n ih =>
    obtain ⟨hnoByte, htick⟩ := hl.pins_of_forall ⟨noBytePins_idle, rfl⟩ hquiet
    obtain ⟨t, hstep, hregs, hrx', htx, -, hnext⟩ :=
      step_await_noByte hawait hrx hnoByte (fun h => by cases htick.symm.trans h)
    have hkept : t.regs = s.regs := by rw [hregs, htick, if_neg Bool.false_ne_true]
    have hnext' : Presents l.tail t := hl.2 ▸ hnext
    obtain ⟨v, hrun, hregs', hrxv, htxv⟩ := ih hnext' (by rw [hkept, hawait]) (hrx'.trans hrx)
      fun p hp => hquiet p (List.mem_of_mem_tail hp)
    exact ⟨v, by rw [runSteps_succ n s t hstep, hrun], hregs'.trans hkept, hrxv, htxv.trans htx⟩

/-- Settles O38: the step of any instruction but a line byte's, and then any number of such steps. -/
theorem awaitWaitsUnchanged : Obligations.AwaitWaitsUnchanged := by
  unfold Obligations.AwaitWaitsUnchanged
  refine ⟨fun i s hinq hack hawait hrx htick => ?_, fun n s hawait hrx hpins htick hscript => ?_⟩
  · obtain ⟨op, hop, e⟩ := exec_eq_hostStep i s
    have hrejects : op.rejects = decide (i ≠ .nop) := by
      rw [Bool.eq_iff_iff, hop.rejects, decide_eq_true_iff]
      exact ⟨fun h => h.1, fun h => ⟨h, hinq, hack⟩⟩
    rw [e, lineBytes_eq_nil hinq hack, withLine_nil, hostStep_await _ _ hawait, awaitStep_wait _ hrx htick, hrejects]
  · refine await_waits n (presents_self s) hawait hrx fun p hp => ?_
    rcases List.mem_cons.mp hp with rfl | hp
    · exact ⟨hpins, htick⟩
    · exact hscript p hp

end Sys2Proof.Machine
end

section
/-! PROOFS. The silent device (spec/42_handshake.md R142). In AWAIT the two timers are the digits of the number of ticks
counted, `ATT_CNT` of weight `ATTEMPT_TICKS`; the tick that would carry out of them is the deadline. -/

namespace Sys2Proof.Machine

/-- AWAIT with `k` ticks counted. -/
structure Waiting (p : Params) (k : Nat) (r : Regs) : Prop where
  hs : r.hs = .await
  txidx : r.txidx = 0
  attTmr : r.attTmr.toNat < p.attemptTicks
  attCnt : r.attCnt.toNat < p.maxAttempts
  count : r.attCnt.toNat * p.attemptTicks + r.attTmr.toNat = k

/-- FAILED by timeout, before any telegram byte. -/
structure TimedOut (r : Regs) : Prop where
  hs : r.hs = .failed
  reason : r.reason = .timeout
  txidx : r.txidx = 0

/-- The deadline in ticks (R142). -/
def deadline (p : Params) : Nat := p.attemptTicks * p.maxAttempts

/-- After `k` ticks: still waiting, or past the deadline and failed. -/
def AfterTicks (p : Params) (k : Nat) (r : Regs) : Prop := Waiting p k r ∨ (deadline p ≤ k ∧ TimedOut r)

theorem Waiting.lt_deadline {p : Params} {k : Nat} {r : Regs} (h : Waiting p k r) : k < deadline p := by
  have hrow : (r.attCnt.toNat + 1) * p.attemptTicks ≤ p.maxAttempts * p.attemptTicks :=
    Nat.mul_le_mul_right _ h.attCnt
  have hcount := h.count
  have htmr := h.attTmr
  rw [Nat.succ_mul] at hrow
  rw [deadline, Nat.mul_comm]
  omega

theorem AfterTicks.txidx {p : Params} {k : Nat} {r : Regs} (h : AfterTicks p k r) : r.txidx = 0 :=
  h.elim Waiting.txidx fun ⟨_, hout⟩ => hout.txidx

theorem Waiting.setTimers {p : Params} {k k' : Nat} {r : Regs} (h : Waiting p k r) {tmr cnt : BitVec 16}
    (htmr : tmr.toNat < p.attemptTicks) (hcnt : cnt.toNat < p.maxAttempts)
    (hcount : cnt.toNat * p.attemptTicks + tmr.toNat = k') : Waiting p k' { r with attTmr := tmr, attCnt := cnt } :=
  ⟨h.hs, h.txidx, htmr, hcnt, hcount⟩

/-- A counted tick is the next number (R131): a digit up, a carry, or the deadline. -/
theorem Waiting.tick {p : Params} {k : Nat} {r : Regs} (h : Waiting p k r) (hcfg : paramsValid p = true) :
    AfterTicks p (k + 1) (tickRegs p r) := by
  obtain ⟨-, hticks, -, hattempts⟩ := (paramsValid_iff p).mp hcfg
  have htmr := h.attTmr
  have hcnt := h.attCnt
  have hcount := h.count
  rcases tickRegs_cases p r with ⟨hgo, e⟩ | ⟨hstop, hgo, e⟩ | ⟨hstop, hlast, e⟩ <;> rw [e]
  · have hnext : (r.attTmr + 1).toNat = r.attTmr.toNat + 1 := by bv_omega
    exact .inl (h.setTimers (by omega) hcnt (by omega))
  · have hnext : (r.attCnt + 1).toNat = r.attCnt.toNat + 1 := by bv_omega
    have hzero : (0 : BitVec 16).toNat = 0 := rfl
    exact .inl (h.setTimers (by omega) (by omega) (by rw [hnext, Nat.succ_mul]; omega))
  · refine .inr ⟨?_, rfl, rfl, h.txidx⟩
    have hall : p.maxAttempts = r.attCnt.toNat + 1 := by omega
    rw [deadline, hall, Nat.mul_comm, Nat.succ_mul]
    omega

/-- How many ticks the levels of one step bring. -/
def tickCount (p : Pins) : Nat := if p.tick = true then 1 else 0

theorem ticksIn_cons (p : Pins) (l : List Pins) : ticksIn (p :: l) = tickCount p + ticksIn l := by
  unfold ticksIn tickCount
  rw [List.filter_cons]
  split
  · rw [List.length_cons, Nat.add_comm]
  · rw [Nat.zero_add]

theorem ticksIn_take_succ (l : List Pins) (n : Nat) :
    ticksIn (l.take (n + 1)) = tickCount (l.headD Pins.idle) + ticksIn (l.tail.take n) := by
  cases l with
  | nil => simp [ticksIn, tickCount, Pins.idle]
  | cons p l => exact ticksIn_cons p _

theorem ticksIn_take_mono (l : List Pins) {m n : Nat} (h : m ≤ n) : ticksIn (l.take m) ≤ ticksIn (l.take n) := by
  obtain ⟨d, rfl⟩ := Nat.exists_eq_add_of_le h
  rw [List.take_add, ticksIn, ticksIn, List.filter_append, List.length_append]
  exact Nat.le_add_right _ _

/-- One step of the silent run: before the deadline whatever host operation is presented, after it under NOP. -/
theorem step_afterTicks {s : State} {k : Nat} (h : AfterTicks s.cfg k s.regs) (hrx : s.rx = [])
    (hcfg : paramsValid s.cfg = true) (hpins : NoBytePins s.pins) (hhost : k < deadline s.cfg ∨ SilentPins s.pins) :
    ∃ t regs, step s = .next t ∧ AfterTicks s.cfg (k + tickCount s.pins) regs ∧ Settled { s with regs := regs } t := by
  rcases h with hwait | ⟨hlate, hout⟩
  · obtain ⟨t, hstep, ht⟩ := step_await_noByte hwait.hs hrx hpins (fun _ => hcfg)
    refine ⟨t, _, hstep, ?_, ht⟩
    unfold tickCount
    split
    · exact hwait.tick hcfg
    · exact .inl hwait
  · have ⟨_, hacts, _⟩ := hpins
    have hsilent : SilentPins s.pins := hhost.resolve_left (Nat.not_lt.mpr hlate)
    have hfree : NotBusy s := by rw [NotBusy, hout.hs, isBusy_failed]
    have hstep : step s = .next (endOfStep { s with out := stateOutputs s.regs }) := by
      rw [step_silent s hsilent, hostStep_notBusy false quietStep s hfree]
      rfl
    obtain ⟨hregs, hrx', htx, hcfg', hnext⟩ :=
      settled_endOfStep (u := { s with out := stateOutputs s.regs }) hacts
    exact ⟨_, s.regs, hstep, .inr ⟨Nat.le_add_right_of_le hlate, hout⟩, hregs, hrx', htx, hcfg', hnext⟩

/-- The silent run: as long as the deadline is ahead, or the host presents NOP. -/
theorem run_afterTicks (n : Nat) {l : List Pins} {s : State} {k : Nat} (hl : Presents l s)
    (h : AfterTicks s.cfg k s.regs) (hrx : s.rx = []) (hcfg : paramsValid s.cfg = true) (hpins : ∀ p ∈ l, NoBytePins p)
    (hhost : ∀ j < n, k + ticksIn (l.take j) < deadline s.cfg ∨ ∀ p ∈ l, SilentPins p) :
    ∃ t, runSteps n s = .next t ∧ AfterTicks s.cfg (k + ticksIn (l.take n)) t.regs ∧ t.tx = s.tx := by
  induction n generalizing l s k with
  | zero => exact ⟨s, rfl, h, rfl⟩
  | succ n ih =>
    have hnow : k < deadline s.cfg ∨ SilentPins s.pins :=
      (hhost 0 (Nat.succ_pos n)).imp_right fun hsilent => hl.pins_of_forall silentPins_idle hsilent
    obtain ⟨t, regs, hstep, hafter, ht⟩ :=
      step_afterTicks h hrx hcfg (hl.pins_of_forall noBytePins_idle hpins) hnow
    have hcfg' : t.cfg = s.cfg := ht.cfg
    have hnext : Presents l.tail t := hl.2 ▸ ht.presents
    have htail : ∀ j < n, k + tickCount s.pins + ticksIn (l.tail.take j) < deadline t.cfg ∨
        ∀ p ∈ l.tail, SilentPins p := by
      intro j hj
      rw [hcfg', Nat.add_assoc, hl.1, ← ticksIn_take_succ]
      exact (hhost (j + 1) (Nat.succ_lt_succ hj)).imp_right fun hsilent p hp => hsilent p (List.mem_of_mem_tail hp)
    obtain ⟨v, hrun, hv, htx⟩ := ih hnext (by rw [hcfg', ht.regs]; exact hafter) (ht.rx.trans hrx)
      (by rw [hcfg']; exact hcfg) (fun p hp => hpins p (List.mem_of_mem_tail hp)) htail
    refine ⟨v, by rw [runSteps_succ n s t hstep, hrun], ?_, htx.trans ht.tx⟩
    rw [ticksIn_take_succ, ← Nat.add_assoc, ← hl.1, ← hcfg']
    exact hv

/-- A SEND of a valid Command to a ready port (R122), up to the agents' turn. -/
theorem step_send_transferred {s : State} {p : HostPorts} (hfree : NotBusy s) (hrst : s.pins.rst = false)
    (hword : s.pins.word = .hop p) (hop : p.op = 3) (hgood : GoodOperands p.cmd) (herr : s.pins.txErr = false)
    (hready : s.pins.txReady = true) : step s = .next (endOfStep { s with
      regs := enterAwait (buildTelegram p.cmd s.regs)
      tx := s.tx ++ [0xFA]
      ckWritten := true
      out := { Acked s with txValid := true, txData := 0xFA } }) := by
  have hdecode : decode s.pins.word = .ok (.send p.cmd) := by rw [hword]; exact decodeHop_send hop
  rw [step_of_decode hrst hdecode, exec_send_of_notBusy p.cmd hfree, evalSend_good hgood,
    offerInq_transferred p.cmd herr hready]
  rfl

/-- Settles O58: the SEND starts the count at 0, and the run counts from there. -/
theorem silentDeviceTimesOut : Obligations.SilentDeviceTimesOut := by
  unfold Obligations.SilentDeviceTimesOut
  intro s p n hfree hrx hrst hacts hword hop hgood herr hready h1 h2 h3 h4 hpins _ hhost
  have hcfg : paramsValid s.cfg = true := (paramsValid_iff s.cfg).mpr ⟨h1, h2, h3, h4⟩
  have hsend := step_send_transferred hfree hrst hword hop hgood herr hready
  obtain ⟨t, hstep, hregs, hrx', htx, hcfg', hnext⟩ : ∃ t, step s = .next t ∧ Settled { s with
      regs := enterAwait (buildTelegram p.cmd s.regs), tx := s.tx ++ [0xFA] } t := by
    obtain ⟨hregs, hrx', htx, hcfg', hnext⟩ := settled_endOfStep (u := { s with
      regs := enterAwait (buildTelegram p.cmd s.regs), tx := s.tx ++ [0xFA], ckWritten := true
      out := { Acked s with txValid := true, txData := 0xFA } }) hacts
    exact ⟨_, hsend, hregs, hrx', htx, hcfg', hnext⟩
  have hcfgt : t.cfg = s.cfg := hcfg'
  have hstart : AfterTicks t.cfg 0 t.regs := by
    rw [hregs, hcfgt]
    exact .inl ⟨rfl, rfl, h1, h3, by simp⟩
  have hhost' : ∀ j < n, 0 + ticksIn (s.script.take j) < deadline t.cfg ∨ ∀ p ∈ s.script, SilentPins p := by
    intro j hj
    rw [Nat.zero_add, hcfgt]
    exact hhost.imp_left (Nat.lt_of_le_of_lt (ticksIn_take_mono _ (Nat.le_sub_one_of_lt hj)))
  obtain ⟨v, hrun, hv, htxv⟩ := run_afterTicks n hnext hstart (hrx'.trans hrx) (by rw [hcfgt]; exact hcfg) hpins hhost'
  refine ⟨v, by rw [runSteps_succ n s t hstep, hrun], htxv.trans htx, hv.txidx, ?_⟩
  rw [Nat.zero_add, hcfgt] at hv
  split
  next hearly =>
    rcases hv with hwait | ⟨hlate, -⟩
    · exact hwait.hs
    · exact absurd hlate (Nat.not_le.mpr hearly)
  next hlate =>
    rcases hv with hwait | ⟨-, hout⟩
    · exact absurd hwait.lt_deadline hlate
    · exact ⟨hout.hs, hout.reason⟩

end Sys2Proof.Machine
end

section
/-! PROOFS. The shortest handshake (spec/20_memory.md R54, spec/70_reset_and_hazards.md R236): SEND, the ACK, twelve writes
and the flush, each a step; and no step comes nearer to COMPLETE by more than one. -/

namespace Sys2Proof.Machine

/-- A step as the silent environment presents it, from the state machine's step and the next levels. -/
theorem step_settles {s u : State} (h : SilentPins s.pins) (hstep : hostStep false quietStep s = .next u)
    (hpins : u.pins = s.pins) : ∃ t, step s = .next t ∧ Settled u t := by
  have ⟨_, hacts, _⟩ := h
  exact ⟨endOfStep u, by rw [step_silent s h, hstep]; rfl, settled_endOfStep (by rw [hpins]; exact hacts)⟩

theorem silentPins_ready : SilentPins readyPins := ⟨rfl, rfl, _, rfl, rfl⟩

theorem silentPins_flush : SilentPins flushPins := ⟨rfl, rfl, _, rfl, rfl⟩

/-- A byte of the telegram is transferred (R134). -/
theorem step_write {s : State} (hxmit : s.regs.hs = .xmit) (hindex : s.regs.txidx.toNat ≤ 11)
    (hpins : s.pins = readyPins) : ∃ t, step s = .next t ∧ Settled { s with
      regs := { s.regs with txidx := s.regs.txidx + 1 }
      tx := s.tx ++ [tbCell s.regs.tb s.regs.txidx] } t := by
  have hwrite : xmitStep false s = writePhase false s := if_pos hindex
  have hstep : hostStep false quietStep s = .next { s with
      regs := { s.regs with txidx := s.regs.txidx + 1 }
      tx := s.tx ++ [tbCell s.regs.tb s.regs.txidx]
      out := { BusyOutputs false s with txValid := true, txData := tbCell s.regs.tb s.regs.txidx } } := by
    rw [hostStep_xmit false quietStep hxmit, hwrite, writePhase_eq_ite, hpins]
    rfl
  obtain ⟨t, ht, hregs, hrx, htx, hcfg, hnext⟩ := step_settles (by rw [hpins]; exact silentPins_ready) hstep rfl
  exact ⟨t, ht, hregs, hrx, htx, hcfg, hnext⟩

/-- Ready steps up to the last cell put the rest of the telegram on the TX stream. -/
theorem run_writes {n : Nat} {rest : List Pins} {s : State} (hxmit : s.regs.hs = .xmit)
    (hcount : s.regs.txidx.toNat + n = 12) (hl : Presents (List.replicate n readyPins ++ rest) s) :
    ∃ t, runSteps n s = .next t ∧ t.regs = { s.regs with txidx := 12 } ∧ t.rx = s.rx ∧
      t.tx = s.tx ++ (Frame.elements s.regs.tb).drop s.regs.txidx.toNat ∧ Presents rest t := by
  induction n generalizing s with
  | zero =>
    have hindex : s.regs.txidx = 12 := by bv_omega
    have hall : (Frame.elements s.regs.tb).drop s.regs.txidx.toNat = [] := by rw [hindex]; rfl
    exact ⟨s, rfl, by rw [← hindex], rfl, by rw [hall, List.append_nil], hl⟩
  | succ n ih =>
    obtain ⟨hpins, hscript⟩ := hl
    obtain ⟨t, hstep, ht⟩ := step_write hxmit (by omega) hpins
    have hregs : t.regs = { s.regs with txidx := s.regs.txidx + 1 } := ht.regs
    have hindex : t.regs.txidx.toNat = s.regs.txidx.toNat + 1 := by rw [hregs]; bv_omega
    have hnext : Presents (List.replicate n readyPins ++ rest) t := by
      have hpresents : Presents s.script t := ht.presents
      rwa [hscript] at hpresents
    obtain ⟨v, hrun, hregsv, hrxv, htxv, hl'⟩ := ih (by rw [hregs]; exact hxmit) (by omega) hnext
    have htx : t.tx = s.tx ++ [tbCell s.regs.tb s.regs.txidx] := ht.tx
    have hlt : s.regs.txidx.toNat < (Frame.elements s.regs.tb).length := by rw [length_elements]; omega
    have hcell : tbCell s.regs.tb s.regs.txidx = (Frame.elements s.regs.tb)[s.regs.txidx.toNat] :=
      tbCell_eq_of_getElem? (List.getElem?_eq_getElem hlt)
    refine ⟨v, by rw [runSteps_succ n s t hstep, hrun], by rw [hregsv, hregs], hrxv.trans ht.rx, ?_, hl'⟩
    rw [htxv, htx, hindex, hregs, hcell, List.append_assoc, List.singleton_append, ← List.drop_eq_getElem_cons hlt]

/-- The flush is over (R136). -/
theorem step_flushed {s : State} (hxmit : s.regs.hs = .xmit) (hindex : s.regs.txidx = 12)
    (hpins : s.pins = flushPins) : ∃ t, step s = .next t ∧ Settled { s with
      regs := { s.regs with hs := .complete } } t := by
  have hflush : xmitStep false s = flushPhase false s := if_neg (by rw [hindex]; decide)
  have hstep : hostStep false quietStep s = .next { s with
      regs := { s.regs with hs := .complete }
      out := { BusyOutputs false s with txFlush := true } } := by
    rw [hostStep_xmit false quietStep hxmit, hflush, flushPhase_eq_ite, hpins]
    rfl
  obtain ⟨t, ht, hregs, hrx, htx, hcfg, hnext⟩ := step_settles (by rw [hpins]; exact silentPins_flush) hstep rfl
  exact ⟨t, ht, hregs, hrx, htx, hcfg, hnext⟩

/-- ACK, alone in the port, is popped and leads to XMIT (R130). -/
theorem step_acknowledged {s : State} (hawait : s.regs.hs = .await) (hrx : s.rx = [0x05]) (hpins : SilentPins s.pins) :
    ∃ t, step s = .next t ∧ Settled { s with regs := { s.regs with hs := .xmit }, rx := [] } t := by
  have hstep : hostStep false quietStep s = .next { s with
      regs := { s.regs with hs := .xmit }, rx := [], out := { BusyOutputs false s with rxPop := true } } := by
    rw [hostStep_await false quietStep hawait, awaitStep_byte false hrx]
    rfl
  obtain ⟨t, ht, hregs, hrx', htx, hcfg, hnext⟩ := step_settles hpins hstep rfl
  exact ⟨t, ht, hregs, hrx', htx, hcfg, hnext⟩

/-- The first step: SEND is taken, and the device's ACK arrives after it. -/
theorem step_send_then_ack {s : State} {c : Command} (hfree : NotBusy s) (hgood : GoodOperands c) (hrx : s.rx = [])
    (hpins : s.pins = sendPins c) : ∃ t, step s = .next t ∧ t.regs = enterAwait (buildTelegram c s.regs) ∧
      t.rx = [0x05] ∧ t.tx = s.tx ++ [0xFA] ∧ Presents s.script t := by
  have hstep := step_send_transferred (s := s) (p := ⟨3, c, 0, zeroFrame⟩) hfree (by rw [hpins]; rfl)
    (by rw [hpins]; rfl) rfl hgood (by rw [hpins]; rfl) (by rw [hpins]; rfl)
  rw [endOfStep_eq, hpins] at hstep
  exact ⟨_, hstep, rfl, congrArg (· ++ [0x05]) hrx, rfl, rfl, rfl⟩

/-- The run of R54, from the SEND to COMPLETE. -/
theorem run_handshake {s : State} {c : Command} (hfree : NotBusy s) (hgood : GoodOperands c) (hrx : s.rx = [])
    (hpins : s.pins = sendPins c)
    (hscript : s.script = Pins.idle :: (List.replicate 12 readyPins ++ [flushPins])) :
    ∃ t, runSteps 15 s = .next t ∧ t.rx = [] ∧ t.tx = s.tx ++ 0xFA :: Frame.elements (frameOf c) ∧
      t.regs = { enterAwait (buildTelegram c s.regs) with hs := .complete, txidx := 12 } := by
  obtain ⟨s1, hstep1, hregs1, hrx1, htx1, hnext1⟩ := step_send_then_ack hfree hgood hrx hpins
  rw [hscript] at hnext1
  obtain ⟨hpins1, hscript1⟩ := hnext1
  obtain ⟨s2, hstep2, ht2⟩ := step_acknowledged (by rw [hregs1]; rfl) hrx1 (by rw [hpins1]; exact silentPins_idle)
  have hregs2 : s2.regs = { enterAwait (buildTelegram c s.regs) with hs := .xmit } := by rw [ht2.regs, hregs1]
  have hnext2 : Presents (List.replicate 12 readyPins ++ [flushPins]) s2 := by
    have hpresents : Presents s1.script s2 := ht2.presents
    rwa [hscript1] at hpresents
  obtain ⟨s3, hrun3, hregs3, hrx3, htx3, hpins3, -⟩ :=
    run_writes (by rw [hregs2]) (by rw [hregs2]; rfl) hnext2
  rw [hregs2] at hregs3 htx3
  obtain ⟨s4, hstep4, ht4⟩ := step_flushed (by rw [hregs3]) (by rw [hregs3]) hpins3
  have hrun2 : runSteps 13 s2 = .next s4 := by
    rw [runSteps_add hrun3 1, runSteps_succ 0 s3 s4 hstep4, runSteps_zero]
  refine ⟨s4, ?_, ?_, ?_, ?_⟩
  · rw [runSteps_succ 14 s s1 hstep1, runSteps_succ 13 s1 s2 hstep2, hrun2]
  · exact (ht4.rx.trans hrx3).trans ht2.rx
  · have htx2 : s2.tx = s1.tx := ht2.tx
    have htx4 : s4.tx = s3.tx := ht4.tx
    rw [htx4, htx3, htx2, htx1, List.append_assoc]
    rfl
  · rw [ht4.regs, hregs3]

/-- How many steps COMPLETE is away at least: 15 from IDLE and FAILED, in a handshake one for each byte still to write
and one for the flush, and one more in AWAIT. -/
def stepsLeft (r : Regs) : Nat :=
  match r.hs with
  | .idle => 15
  | .failed => 15
  | .await => 14 - r.txidx.toNat
  | .xmit => 13 - r.txidx.toNat
  | .complete => 0

theorem stepsLeft_le (r : Regs) : stepsLeft r ≤ 15 := by
  unfold stepsLeft
  cases r.hs <;> dsimp only <;> omega

theorem stepsLeft_of_await {r : Regs} (h : r.hs = .await) : stepsLeft r = 14 - r.txidx.toNat := by
  rw [stepsLeft, h]

theorem stepsLeft_of_xmit {r : Regs} (h : r.hs = .xmit) : stepsLeft r = 13 - r.txidx.toNat := by
  rw [stepsLeft, h]

theorem stepsLeft_of_complete {r : Regs} (h : r.hs = .complete) : stepsLeft r = 0 := by
  rw [stepsLeft, h]

theorem stepsLeft_of_ended {r : Regs} (h : r.hs = .idle ∨ r.hs = .failed) : stepsLeft r = 15 := by
  rcases h with h | h <;> rw [stepsLeft, h]

/-- From `r` to `r'` COMPLETE has come nearer by one step at most. -/
def OneNearer (r r' : Regs) : Prop := stepsLeft r ≤ stepsLeft r' + 1

theorem oneNearer_of_ended {r r' : Regs} (h : r'.hs = .idle ∨ r'.hs = .failed) : OneNearer r r' := by
  rw [OneNearer, stepsLeft_of_ended h]
  exact Nat.le_succ_of_le (stepsLeft_le r)

theorem oneNearer_of_kept {r r' : Regs} (hs : r'.hs = r.hs) (htxidx : r'.txidx = r.txidx) : OneNearer r r' := by
  rw [OneNearer, stepsLeft, stepsLeft, hs, htxidx]
  exact Nat.le_succ _

/-- A new handshake has the whole telegram before it. -/
theorem oneNearer_of_await_start {r r' : Regs} (hs : r'.hs = .await) (htxidx : r'.txidx = 0) : OneNearer r r' := by
  rw [OneNearer, stepsLeft_of_await hs, htxidx]
  exact stepsLeft_le r

theorem oneNearer_of_acknowledged {r r' : Regs} (hs : r.hs = .await) (hs' : r'.hs = .xmit)
    (htxidx : r'.txidx = r.txidx) : OneNearer r r' := by
  rw [OneNearer, stepsLeft_of_await hs, stepsLeft_of_xmit hs', htxidx]
  omega

theorem oneNearer_of_write {r r' : Regs} (hs : r.hs = .xmit) (hs' : r'.hs = .xmit)
    (hindex : r.txidx.toNat ≤ 11) (htxidx : r'.txidx = r.txidx + 1) : OneNearer r r' := by
  have hnext : (r.txidx + 1).toNat = r.txidx.toNat + 1 := by bv_omega
  rw [OneNearer, stepsLeft_of_xmit hs, stepsLeft_of_xmit hs', htxidx, hnext]
  omega

theorem oneNearer_of_flushed {r r' : Regs} (hs : r.hs = .xmit) (hindex : 11 < r.txidx.toNat) : OneNearer r r' := by
  rw [OneNearer, stepsLeft_of_xmit hs]
  omega

theorem blockOp_oneNearer {op : BlockOp} {s t : State} (h : op.act s = .next t) : OneNearer s.regs t.regs := by
  rcases blockOp_cases h with hkept | ⟨c, -, hsend⟩ | ⟨-, hclr⟩
  · exact oneNearer_of_kept hkept.hs hkept.txidx
  · rcases evalSend_cases c s with ⟨-, e⟩ | ⟨-, -, e⟩ | ⟨-, -, -, e⟩ | ⟨-, -, -, e⟩ <;> cases e.symm.trans hsend
    · exact oneNearer_of_ended (.inl rfl)
    · exact oneNearer_of_ended (.inr rfl)
    · exact oneNearer_of_await_start rfl rfl
    · exact oneNearer_of_kept rfl rfl
  · cases hclr
    exact oneNearer_of_ended (.inl rfl)

theorem judgeReply_oneNearer {r : Regs} (h : r.hs = .await) (b : Byte) : OneNearer r (judgeReply b r) := by
  rcases judgeReply_cases b r with ⟨-, e⟩ | ⟨-, e⟩ <;> rw [e]
  · exact oneNearer_of_acknowledged h rfl rfl
  · exact oneNearer_of_ended (.inr rfl)

theorem tickRegs_oneNearer (p : Params) (r : Regs) : OneNearer r (tickRegs p r) := by
  rcases tickRegs_cases p r with ⟨-, e⟩ | ⟨-, -, e⟩ | ⟨-, -, e⟩ <;> rw [e]
  · exact oneNearer_of_kept rfl rfl
  · exact oneNearer_of_kept rfl rfl
  · exact oneNearer_of_ended (.inr rfl)

theorem hostStep_oneNearer {op : BlockOp} {s t : State} (h : hostStep op.rejects op.act s = .next t) :
    OneNearer s.regs t.regs := by
  apply hostStep_rule (fun u => OneNearer s.regs u.regs) op.rejects op.act s t h
  case byte => exact fun hawait b _ _ => judgeReply_oneNearer hawait b
  case tick => exact fun _ _ _ _ => tickRegs_oneNearer s.cfg s.regs
  case writeErr | flushErr => exact fun _ _ _ => oneNearer_of_ended (.inr rfl)
  case write => exact fun hxmit hindex _ _ => oneNearer_of_write hxmit hxmit hindex rfl
  case flushed => exact fun hxmit hindex _ _ => oneNearer_of_flushed hxmit hindex
  case op => exact fun _ hact => blockOp_oneNearer hact
  all_goals intros; exact oneNearer_of_kept rfl rfl

theorem step_oneNearer {s t : State} (h : step s = .next t) : OneNearer s.regs t.regs := by
  obtain ⟨u, rfl, ⟨-, hreset⟩ | ⟨-, hblock⟩⟩ := step_reset_or_block h <;> rw [endOfStep_regs]
  · cases hreset
    exact oneNearer_of_ended (.inl rfl)
  · obtain ⟨op, -, -, e⟩ := blockStep_eq_hostStep hblock
    have hnear : OneNearer (withLine (wordLineBytes s.pins.word) s).regs u.regs := hostStep_oneNearer e
    exact hnear

theorem run_stepsLeft {k : Nat} {s t : State} (h : runSteps k s = .next t) :
    stepsLeft s.regs ≤ stepsLeft t.regs + k := by
  induction k generalizing s with
  | zero => cases h; exact Nat.le_refl _
  | succ k ih =>
    cases hstep : step s with
    | next u =>
      rw [runSteps_succ k s u hstep] at h
      have hrest := ih h
      have hfirst : stepsLeft s.regs ≤ stepsLeft u.regs + 1 := step_oneNearer hstep
      omega
    | fault r => simp [runSteps, Host.Core.run, hstep] at h
    | refused r => simp [runSteps, Host.Core.run, hstep] at h

theorem idle_or_failed {s : State} (hfree : NotBusy s) (hs : s.regs.hs ≠ .complete) :
    s.regs.hs = .idle ∨ s.regs.hs = .failed := by
  unfold NotBusy at hfree
  cases h : s.regs.hs with
  | idle => exact .inl rfl
  | failed => exact .inr rfl
  | complete => exact absurd h hs
  | await | xmit => rw [h] at hfree; cases hfree

/-- Settles O59: the run of fifteen steps, and the count of the steps that are left. -/
theorem shortestHandshakeCompletes : Obligations.ShortestHandshakeCompletes := by
  unfold Obligations.ShortestHandshakeCompletes
  refine ⟨fun s c hfree hgood hrx hpins hscript => ?_, fun s t k hfree hs hk hrun hcomplete => ?_⟩
  · obtain ⟨t, hrun, hrx', htx, hregs⟩ := run_handshake hfree hgood hrx hpins hscript
    rw [frameOf_eq] at htx
    exact ⟨t, hrun, by rw [hregs], by rw [hregs]; rfl, by rw [hregs], hrx', htx⟩
  · have hleft := run_stepsLeft hrun
    rw [stepsLeft_of_ended (idle_or_failed hfree hs), stepsLeft_of_complete hcomplete] at hleft
    omega

end Sys2Proof.Machine
end
